-- ==== Sys2Proof/Word.lean ====
section
/-! DEFINITION. The plain value types of the part: a byte, a timer, and the numbered items of
spec/00 ("Numbering") as bounded indices.  An index counts from 0; the manual's number is the
index plus one (stations 0 to 6 keep their own number). -/

namespace Sys2Proof

/-- One byte of a frame or record. -/
abbrev Byte := BitVec 8

/-- A timer: `none` while stopped, `some ms` while running with `ms` milliseconds left. -/
abbrev Timer := Option Nat

/-- Slots 1 to 12. -/
abbrev SlotId := Fin 12
/-- Axes 1 to 7. -/
abbrev AxisId := Fin 7
/-- Zones 1 to 5. -/
abbrev ZoneId := Fin 5
/-- Beacons 1 to 8. -/
abbrev BeaconId := Fin 8
/-- Stations 0 (the cab) to 6. -/
abbrev StationId := Fin 7
/-- Crew stations 1 to 6. -/
abbrev CrewId := Fin 6
/-- The four door axes, 4 to 7. -/
abbrev DoorId := Fin 4

end Sys2Proof
end

