-- ==== Sys2Proof/Syntax.lean ====
section
/-! DEFINITION. The commands of the part: one constructor per row of spec/opcode_table.json.
The part is a block; a command is a request that reaches it, an event on one of its lines or
links, or the expiry of one of its timers (spec/00 "Time and events"). -/

namespace Sys2Proof

/-- Who sends a request.  `cab`: the request came over the Chassis Port (R158, R159).
`crew c n`: it is the request field, numbered `n`, of a good Reply of crew station `c + 1` (R150). -/
inductive Sender where
  | cab
  | crew (station : CrewId) (number : Byte)
  deriving DecidableEq, Repr

/-- A CAN identifier as received: extended (29-bit) or 11-bit, data or remote form (R155). -/
structure CanIdent where
  extended : Bool
  remote : Bool
  value : Nat
  deriving DecidableEq, Repr

/-- The two channels of the emergency-stop loop (R131). -/
inductive Channel where
  | a
  | b
  deriving DecidableEq, Repr

/-- The levels of the direct lines at a start-up: both loop channels (R131), the first battery
measurement (R166), the ignition line (R167) and the four latch switches (R51). -/
structure LineLevels where
  closedA : Bool
  closedB : Bool
  battery : Nat
  ignition : Bool
  latchMade : Vector Bool 4
  deriving DecidableEq, Repr

/-- The commands, one per row of the table.  Numbers a sender chooses (a slot, a zone, a level)
stand as the byte received, since the part answers a number out of range (R41, R54, R80). -/
inductive Instr where
  /-- SUBMIT: a sequence block, as received (R9, R178). -/
  | submit (src : Sender) (block : List Byte)
  /-- CANCEL (R42). -/
  | cancel (src : Sender) (slot : Byte)
  /-- RELEASE (R43). -/
  | release (src : Sender) (slot : Byte)
  /-- CLEAR_FLAG (R44). -/
  | clearFlag (src : Sender) (slot : Byte)
  /-- RERUN (R45). -/
  | rerun (src : Sender) (slot : Byte)
  /-- RESUME (R28). -/
  | resume (src : Sender) (slot : Byte)
  /-- INTERROGATE (R46). -/
  | interrogate (src : Sender) (slot : Byte)
  /-- BLOCK_ZONE (R54). -/
  | blockZone (src : Sender) (zone : Byte)
  /-- UNBLOCK_ZONE (R55). -/
  | unblockZone (src : Sender) (zone : Byte)
  /-- TRAFFIC_PERMIT_GRANT (R65). -/
  | trafficPermitGrant (src : Sender)
  /-- TRAFFIC_PERMIT_WITHDRAW (R65). -/
  | trafficPermitWithdraw (src : Sender)
  /-- HOLD, with the level code as received (R80). -/
  | hold (src : Sender) (level : Byte)
  /-- RELEASE_HOLD (R81). -/
  | releaseHold (src : Sender)
  /-- EMERGENCY_RESET (R137). -/
  | emergencyReset (src : Sender)
  /-- CLEAR_FAULTS, with the flag map of R181 (R139). -/
  | clearFaults (src : Sender) (map : BitVec 32)
  /-- READ_STATUS (R142). -/
  | readStatus (src : Sender)
  /-- READ_CONFIGURATION, with the number of a part of the record (R175). -/
  | readConfiguration (src : Sender) (part : Byte)
  /-- WRITE_CONFIGURATION, with the record as gathered (R173). -/
  | writeConfiguration (src : Sender) (record : List Byte)
  /-- RESTART; `battery` is the first measurement the start-up takes (R171, R166). -/
  | restart (src : Sender) (battery : Nat)
  /-- UNDECODABLE_REQUEST: the kind byte and what follows it, as received (R184). -/
  | undecodableRequest (src : Sender) (body : List Byte)
  /-- WRITE_CONFIGURATION_COMPLETION (R174). -/
  | writeConfigurationCompletion
  /-- POWER_ON, with the line levels found (R170). -/
  | powerOn (levels : LineLevels)
  /-- SENSOR_SAMPLE (R93). -/
  | sensorSample (axis : AxisId) (flagged : Bool) (position : Nat)
  /-- SAMPLE_WATCHDOG_EXPIRY (R94). -/
  | sampleWatchdogExpiry (axis : AxisId)
  /-- PUMP_PRESSURE_SAMPLE, in bar (R83). -/
  | pumpPressureSample (bar : Nat)
  /-- LATCH_SWITCH_CHANGE of one door's switch (R110). -/
  | latchSwitchChange (door : DoorId) (made : Bool)
  /-- CHANNEL_CHANGE (R132). -/
  | channelChange (channel : Channel) (closed : Bool)
  /-- DISCREPANCY_TIMER_EXPIRY (R133). -/
  | discrepancyTimerExpiry
  /-- BATTERY_MEASUREMENT, in 0.1 V (R165). -/
  | batteryMeasurement (decivolts : Nat)
  /-- IGNITION_LINE_CHANGE (R167). -/
  | ignitionLineChange (on : Bool)
  /-- WAKE_LINE_PULL (R153). -/
  | wakeLinePull
  /-- REPLY: the frame's bytes, taken whole (R144, R147). -/
  | reply (frame : List Byte)
  /-- REPLY_WINDOW_EXPIRY (R144). -/
  | replyWindowExpiry
  /-- CHASSIS_STATUS: the frame's data bytes (R156). -/
  | chassisStatus (data : List Byte)
  /-- FRESHNESS_TIMER_EXPIRY (R156). -/
  | freshnessTimerExpiry
  /-- CAB_PRESENCE: the frame's data bytes (R157). -/
  | cabPresence (data : List Byte)
  /-- PRESENCE_TIMER_EXPIRY (R157). -/
  | presenceTimerExpiry
  /-- FIRST_SEGMENT: the data bytes of a Cab Block Segment of index 0 (R159). -/
  | firstSegment (data : List Byte)
  /-- DATA_SEGMENT: the data bytes of any other Cab Block Segment (R159). -/
  | dataSegment (data : List Byte)
  /-- GAP_TIMER_EXPIRY (R160). -/
  | gapTimerExpiry
  /-- PART_STATUS_PERIOD_EXPIRY (R162). -/
  | partStatusPeriodExpiry
  /-- CAN_FRAME_TRANSMITTED: the frame being sent was acknowledged, or not (R161). -/
  | canFrameTransmitted (acknowledged : Bool)
  /-- DWELL_TIMER_EXPIRY of one slot (R30). -/
  | dwellTimerExpiry (slot : SlotId)
  /-- RELEASE_TIMER_EXPIRY of one zone (R56). -/
  | releaseTimerExpiry (zone : ZoneId)
  /-- PERMIT_TIMER_EXPIRY (R64). -/
  | permitTimerExpiry
  /-- PRE_WARN_TIMER_EXPIRY of one zone (R119). -/
  | preWarnTimerExpiry (zone : ZoneId)
  /-- START_TIMER_EXPIRY (R86). -/
  | startTimerExpiry
  /-- RUN_ON_TIMER_EXPIRY (R87). -/
  | runOnTimerExpiry
  /-- PRESSURE_LOSS_TIMER_EXPIRY (R88). -/
  | pressureLossTimerExpiry
  /-- TIME_LIMIT_EXPIRY (R107). -/
  | timeLimitExpiry
  /-- STALL_TIMER_EXPIRY (R106). -/
  | stallTimerExpiry
  /-- LATCH_TIMER_EXPIRY (R110). -/
  | latchTimerExpiry
  /-- SETTLE_TIMER_EXPIRY (R108). -/
  | settleTimerExpiry
  /-- RAMP_TIMER_EXPIRY (R114). -/
  | rampTimerExpiry
  /-- LAMP_READING of one beacon, in mA (R127). -/
  | lampReading (beacon : BeaconId) (milliamps : Nat)
  /-- FLASH_EDGE (R126). -/
  | flashEdge
  /-- STANDBY_TIMER_EXPIRY (R167). -/
  | standbyTimerExpiry
  /-- POLL_END (R144). -/
  | pollEnd
  /-- OTHER_IDENTIFIER_FRAME: a CAN frame with its identifier (R155). -/
  | otherIdentifierFrame (ident : CanIdent) (data : List Byte)
  deriving DecidableEq, Repr

end Sys2Proof
end

