-- ==== Sys2Proof/Decode.lean ====
section
/-! DEFINITION. The decoder over the bits of spec/opcode_table.json. No row of that table gives bits:
the commands are events and requests whose bytes travel in frames, which the meanings themselves
read (R178, R179, R182). -/

namespace Sys2Proof

/-- The command a word spells by the table's bits: none, since no row gives any (log 30). -/
def decodeTableWord (_nbits _w : Nat) : Option Instr := none

end Sys2Proof
end

