-- ==== Sys2Proof/Config.lean ====
section
/-! DEFINITION. The Configuration Record as the blocks read it (R172), the forms the blocks take
while no record is in force, and the free values of the model.  The bytes of the record are read
in Machine/ConfigRecord.lean. -/

namespace Sys2Proof

/-- FREE VALUE (assumption log 8): byte `position` of the store after the `count`-th power loss
during programming.  R174 says only that the check value of such a record does not match. -/
opaque Config.tornByte : (count position : Nat) → Byte

/-- FREE VALUE (assumption log 10): the byte by which an answer carries a mark of R174 or R175, for
which R180 states no code. `mark` is 1 for "the check failed", 2 for "not yet in force" and 3 for
"a Restart is needed". -/
opaque Config.markByte : (mark : Nat) → Byte

/-- FREE VALUE (assumption log 19): the byte at a place behind the end of the content that ends
within the last data frame of a sent run (R182 states six data bytes and no value for these). -/
opaque Config.padByte : (content : List Byte) → (place : Nat) → Byte

/-- One axis record (R96). `zone` is `none` for a zone number outside 1 to 5. -/
structure AxisCfg where
  present : Bool
  zone : Option ZoneId
  home : Nat
  elo : Nat
  ehi : Nat
  rate : Nat
  vmin : Nat
  creep : Nat
  slow : Nat
  normal : Nat
  ws : Nat
  we : Nat
  tb : Nat
  settle : Nat
  ts : Nat
  pstall : Nat
  latch : Bool
  deriving DecidableEq, Repr

/-- The configured part of a zone record (R50). -/
structure ZoneCfg where
  trafficSide : Bool
  sounderOnMotion : Bool
  preWarn : Nat
  releaseDelay : Nat
  deriving DecidableEq, Repr

/-- The direction a Conflict Table entry blocks (R58). -/
inductive BlockedDir where
  | extend
  | retract
  | both
  deriving DecidableEq, Repr

/-- One Conflict Table entry (R58). An axis number outside 1 to 7 reads as `none`. -/
structure ConflictEntry where
  guarded : Option AxisId
  lo : Nat
  hi : Nat
  blocked : Option AxisId
  dir : BlockedDir
  deriving DecidableEq, Repr

/-- The configured part of a beacon record (R124). Bit `z` of the mask is zone `z + 1`. -/
structure BeaconCfg where
  mask : Byte
  lampCheck : Bool
  imin : Nat
  deriving DecidableEq, Repr

/-- A flash pattern: its period in ms and its on-share in percent (R125). -/
structure Pattern where
  period : Nat
  share : Nat
  deriving DecidableEq, Repr

/-- The role of a crew station (R145). It has no effect on behaviour. -/
inductive Role where
  | pendant
  | panel
  | bridge
  deriving DecidableEq, Repr

/-- The configured part of a crew station record (R145). Bit `z` of the mask is zone `z + 1`. -/
structure StationCfg where
  present : Bool
  role : Role
  level : Nat
  confirmRight : Bool
  rights : Byte
  deriving DecidableEq, Repr

/-- The Configuration Record in force (R172). -/
structure Cfg where
  pready : Nat
  plost : Nat
  tn : Nat
  tx : Nat
  startLimit : Nat
  runOn : Nat
  margin : Nat
  grace : Nat
  permitSeconds : Nat
  canBase : Nat
  axes : Vector AxisCfg 7
  zones : Vector ZoneCfg 5
  conflicts : List ConflictEntry
  beacons : Vector BeaconCfg 8
  patFault : Pattern
  patWarning : Pattern
  patBlocked : Pattern
  patOpen : Pattern
  stations : Vector StationCfg 6
  deriving DecidableEq, Repr

/-- An axis record that is not marked present. -/
def AxisCfg.absent : AxisCfg where
  present := false
  zone := none
  home := 0
  elo := 0
  ehi := 0
  rate := 0
  vmin := 0
  creep := 0
  slow := 0
  normal := 0
  ws := 0
  we := 0
  tb := 0
  settle := 0
  ts := 0
  pstall := 0
  latch := false

/-- What stands in place of a record in CONFIG_FAULT: no axis is present, no conflict entry is in
force and every Release Delay is 3000 ms (R72); the supply thresholds are the defaults (R164); every
crew station counts as present, of level 0 and without rights (R145); the base identifier is the
default (R155, R182); the beacons show FAULT at 500 ms, 50 %, without lamp check (R129).  The
remaining fields are read by nothing in that state and stand at the defaults of R83, R50 and R125. -/
def Cfg.inFault : Cfg where
  pready := 60
  plost := 15
  tn := 230
  tx := 215
  startLimit := 1500
  runOn := 2000
  margin := 150
  grace := 500
  permitSeconds := 120
  canBase := 0x0C4A2000
  axes := Vector.replicate 7 AxisCfg.absent
  zones := Vector.replicate 5
    { trafficSide := false, sounderOnMotion := false, preWarn := 1500, releaseDelay := 3000 }
  conflicts := []
  beacons := Vector.replicate 8 { mask := 0, lampCheck := false, imin := 150 }
  patFault := { period := 500, share := 50 }
  patWarning := { period := 500, share := 50 }
  patBlocked := { period := 1000, share := 75 }
  patOpen := { period := 1500, share := 25 }
  stations := Vector.replicate 6
    { present := true, role := .pendant, level := 0, confirmRight := false, rights := 0 }

end Sys2Proof
end

