-- ==== Sys2Proof/Machine/State.lean ====
section
/-! DEFINITION. Everything the spec gives the part, as plain data (INVENTORY.md, "State"), the
reasons a step could stop, and the state after reset. -/

namespace Sys2Proof.Machine

/-! ## Sequences and slots (chapters 1 and 2) -/

/-- The urgency of a sequence (R2). -/
inductive SeqClass where
  | routine
  | priority
  | recovery
  deriving DecidableEq, Repr

/-- What becomes of a slot at the end of its sequence (R2, R39). -/
inductive RepeatMode where
  | once
  | held
  | cycle
  deriving DecidableEq, Repr

/-- The Action of a step word (R3). -/
inductive Action where
  | move
  | dwell
  | check
  deriving DecidableEq, Repr

/-- The Speed Class of a step word (R4). -/
inductive SpeedClass where
  | creep
  | slow
  | normal
  deriving DecidableEq, Repr

/-- One stored step word (R3) with its six flags (R5 to R8). `axis` is the axis number as received,
0 where the Action uses none; `dwell` is in units of 100 ms. -/
structure Step where
  action : Action
  axis : Nat
  target : Nat
  speed : SpeedClass
  chain : Bool
  join : Bool
  acceptShort : Bool
  pause : Bool
  notify : Bool
  holdToRun : Bool
  dwell : Nat
  deriving DecidableEq, Repr

/-- A stored sequence block (R1, R2). Format, Step Count and Reserved are fixed by the checks
(Format 1, the number of steps, 0). -/
structure Block where
  tag : Byte
  cls : SeqClass
  rep : RepeatMode
  confirm : Option CrewId
  steps : List Step
  deriving DecidableEq, Repr

/-- The seven slot states (R21). -/
inductive SlotState where
  | free
  | queued
  | paused
  | dwelling
  | active
  | stopping
  | completed
  deriving DecidableEq, Repr

/-- Why a slot is PAUSED (R20). -/
inductive PauseCause where
  | step
  | ownerLost
  deriving DecidableEq, Repr

/-- The end causes, in the order of their codes (R36, R180). -/
inductive EndCause where
  | normal
  | cancelled
  | short
  | timeout
  | stalled
  | over
  | latch
  | sensor
  | vehicle
  | zoneBlocked
  | emergency
  | pump
  | checkFailed
  | passUncleared
  deriving DecidableEq, Repr

/-- The wait reasons, in the order of R75. -/
inductive WaitReason where
  | hold
  | supply
  | pump
  | vehicle
  | sensor
  | blocked
  | conflict
  | traffic
  | enable
  | beacon
  | warning
  | grantBusy
  deriving DecidableEq, Repr

/-- The fields of the completion record that only the record holds (R38). `lastMove` is the axis of
the last MOVE that held the grant and that axis's final position. -/
structure RunRecord where
  lastMove : Option (AxisId × Option Nat)
  acceptShort : Nat
  joinDropped : Bool
  wait : Option WaitReason
  deriving DecidableEq, Repr

/-- One slot record (R20). The Tag, Class, Repeat Mode and Confirm Station are those of `block`. -/
structure Slot where
  state : SlotState
  owner : StationId
  block : Block
  step : Nat
  passCount : Nat
  flag : Bool
  pauseCause : Option PauseCause
  ownerLost : Bool
  interrupted : Bool
  lastEnd : Option EndCause
  endStep : Option Nat
  run : RunRecord
  dwellT : Timer
  deriving DecidableEq, Repr

/-- What the Sequence Manager owns (R20, R23). The queue's head stands first. -/
structure SeqManager where
  slots : Vector Slot 12
  queue : List SlotId
  deriving DecidableEq, Repr

/-! ## Zones (chapter 3) -/

/-- Block State (R53). -/
inductive BlockState where
  | unblocked
  | blocked
  | releasing
  deriving DecidableEq, Repr

/-- Position State (R51). -/
inductive PosState where
  | home
  | opened
  deriving DecidableEq, Repr

/-- The blocks on one zone (R53). `set` holds, for each station 0 to 6, whether it has a block. -/
structure ZoneBlocks where
  set : Vector Bool 7
  state : BlockState
  releaseT : Timer
  deriving DecidableEq, Repr

/-- What the Zone Table owns (R50, R62, R64, R70). The traffic permit is ON while its timer runs. -/
structure ZoneTable where
  blocks : Vector ZoneBlocks 5
  position : Vector PosState 5
  intent : Vector Bool 5
  driveOff : Bool
  permitT : Timer
  deriving DecidableEq, Repr

/-! ## The arbiter (chapter 4) -/

/-- Hold level (R79). -/
inductive HoldLevel where
  | none
  | partly
  | full
  deriving DecidableEq, Repr

/-- Pump state (R84). -/
inductive PumpState where
  | off
  | starting
  | ready
  | flowing
  | fault
  deriving DecidableEq, Repr

/-- The grant record (R74). -/
structure Arbiter where
  holder : Option SlotId
  hold : HoldLevel
  pump : PumpState
  startT : Timer
  runOnT : Timer
  lossT : Timer
  deriving DecidableEq, Repr

/-! ## Sensors and strokes (chapter 5) -/

/-- Sensor state (R93). -/
inductive SensorState where
  | unsynced
  | valid
  | fault
  deriving DecidableEq, Repr

/-- One sensor record (R93). -/
structure Sensor where
  state : SensorState
  last : Option Nat
  cand : Option Nat
  watchdog : Timer
  deriving DecidableEq, Repr

/-- A direction of motion (spec/00 "Directions"). -/
inductive Dir where
  | extend
  | retract
  deriving DecidableEq, Repr

/-- The setting of a direction valve (R104). -/
inductive Valve where
  | neutral
  | extend
  | retract
  deriving DecidableEq, Repr

/-- What the Stroke Engine drives for one axis (R104). -/
structure Drive where
  level : Nat
  valve : Valve
  solenoid : Bool
  deriving DecidableEq, Repr

/-- Stroke phase (R97). -/
inductive Phase where
  | pumpWait
  | latchWait
  | driving
  | settling
  | stopping
  deriving DecidableEq, Repr

/-- Join state (R97). -/
inductive JoinState where
  | none
  | pending
  | dropped
  deriving DecidableEq, Repr

/-- The live stroke record (R97). Its drive level is that of its axis's `Drive`. -/
structure Stroke where
  slot : SlotId
  step : Nat
  axis : AxisId
  phase : Phase
  started : Bool
  s : Nat
  t : Nat
  dist : Nat
  dir : Dir
  vc : Nat
  ws : Nat
  we : Nat
  takenOver : Bool
  join : JoinState
  expected : Nat
  limit : Nat
  limitT : Timer
  elapsed : Nat
  latchT : Timer
  settleT : Timer
  stallT : Timer
  stallRef : Nat
  rampLevel : Nat
  rampT : Timer
  deriving DecidableEq, Repr

/-- What the Stroke Engine owns beside the sensors (R97, R104). -/
structure StrokeEngine where
  drives : Vector Drive 7
  stroke : Option Stroke
  deriving DecidableEq, Repr

/-! ## Beacons (chapter 6) -/

/-- Warning state of a zone (R117). -/
inductive WarnState where
  | quiet
  | warning
  | warned
  deriving DecidableEq, Repr

/-- The warning record of a zone (R117). -/
structure Warn where
  state : WarnState
  preWarnT : Timer
  runOut : Bool
  deriving DecidableEq, Repr

/-- Zone and beacon demands, most urgent first (R123). -/
inductive Demand where
  | driveOff
  | fault
  | warning
  | blocked
  | opened
  | none
  deriving DecidableEq, Repr

/-- Lamp state (R127). -/
inductive LampState where
  | ok
  | failed
  deriving DecidableEq, Repr

/-- The live part of a beacon record (R124). `fullOn`: the lit interval under way, or just ended and
not yet read, is a full on-phase so far (R127). -/
structure Beacon where
  demand : Demand
  lit : Bool
  lamp : LampState
  low : Nat
  good : Nat
  fullOn : Bool
  deriving DecidableEq, Repr

/-- What the Beacon Unit owns (R117, R124, R126, R128). -/
structure BeaconUnit where
  warns : Vector Warn 5
  beacons : Vector Beacon 8
  phase : Nat
  sounder : Bool
  deriving DecidableEq, Repr

/-! ## The loop (chapter 7) -/

/-- Loop state, the emergency state (R131). -/
inductive LoopState where
  | ready
  | tripped
  | closedWait
  | loopFault
  deriving DecidableEq, Repr

/-- The loop record (R131). -/
structure Loop where
  state : LoopState
  closedA : Bool
  closedB : Bool
  discT : Timer
  bothOpen : Bool
  deriving DecidableEq, Repr

/-! ## Supply and power (chapter 10) -/

/-- Supply state (R164). -/
inductive SupplyState where
  | normal
  | reduced
  | exhausted
  deriving DecidableEq, Repr

/-- Power state (R167). -/
inductive PowerState where
  | run
  | standby
  | parked
  deriving DecidableEq, Repr

/-- What Supply and Power Control owns but the store: the supply state with the start times of its
four conditions (R164), the power state and the standby timer (R167). -/
structure Supply where
  supply : SupplyState
  belowNormal : Option Nat
  belowExh : Option Nat
  aboveExh : Option Nat
  aboveNormal : Option Nat
  power : PowerState
  standbyT : Timer
  deriving DecidableEq, Repr

/-- The Configuration Store (R170, R174): its bytes; whether a power loss left it half programmed;
whether the part is in CONFIG_FAULT; the record being programmed; and whether, in CONFIG_FAULT, a
completed write has stored a record that is not yet in force. -/
structure Store where
  bytes : List Byte
  torn : Bool
  fault : Bool
  programming : Option (List Byte)
  rewritten : Bool
  deriving DecidableEq, Repr

/-- The levels of the lines that no other record holds. -/
structure Lines where
  battery : Nat
  ignition : Bool
  latchMade : Vector Bool 4
  deriving DecidableEq, Repr

/-! ## Notices, the status summary and the two links (chapters 7 to 9 and 11) -/

/-- The answer codes (R183, the table of codes). -/
inductive Code where
  | ok
  | format
  | reserved
  | stepCount
  | cls
  | chainShape
  | action
  | axis
  | target
  | dwell
  | join
  | confirm
  | rights
  | stopped
  | configFault
  | busy
  | dupTag
  | stationLimit
  | noSlot
  | segment
  | wrongState
  | notOwner
  | badSlot
  | flagSet
  | notPermitted
  | badZone
  | badLevel
  | badFlag
  | badSection
  | configRange
  | badRequest
  deriving DecidableEq, Repr

/-- The failure a SEGMENT refusal carries (R160, R180). -/
inductive SegFailure where
  | singleFrame
  | wrongIndex
  | newFirst
  | gap
  | length
  deriving DecidableEq, Repr

/-- The completion record as a COMPLETION notice carries it (R38). -/
structure Completion where
  slot : SlotId
  owner : StationId
  tag : Byte
  cause : EndCause
  endStep : Nat
  passCount : Nat
  run : RunRecord
  deriving DecidableEq, Repr

/-- The fields of an Interrogate answer of a slot that is not FREE (R46). -/
structure SlotReport where
  state : SlotState
  owner : StationId
  tag : Byte
  cls : SeqClass
  rep : RepeatMode
  step : Nat
  passCount : Nat
  flag : Bool
  pauseCause : Option PauseCause
  wait : Option WaitReason
  phase : Option Phase
  position : Option Nat
  elapsed : Option Nat
  limit : Option Nat
  dwellLeft : Option Nat
  lastEnd : Option EndCause
  endStep : Option Nat
  deriving DecidableEq, Repr

/-- The per-zone fields of the status summary (R143). -/
structure ZoneSummary where
  position : PosState
  block : BlockState
  blockers : Nat
  warn : WarnState
  deriving DecidableEq, Repr

/-- The status summary (R143). `permit` is the time remaining in whole seconds while ON (R185); an
axis entry is `none` for an absent axis. -/
structure Summary where
  loop : LoopState
  faults : Bool
  configFault : Bool
  supply : SupplyState
  power : PowerState
  holder : Option SlotId
  hold : HoldLevel
  pump : PumpState
  driveOff : Bool
  permit : Option Nat
  zones : List ZoneSummary
  axes : List (Option SensorState)
  lamps : List LampState
  slots : List SlotState
  deriving DecidableEq, Repr

/-- The mark of a Read Configuration answer given in CONFIG_FAULT (R175). -/
inductive ConfigMark where
  | none
  | checkFailed
  | notInForce
  deriving DecidableEq, Repr

/-- What an answer carries after its code (R180). -/
inductive Result where
  /-- Nothing. -/
  | none
  /-- Submit: slot, Tag, step index (R9). -/
  | submit (slot : Option SlotId) (tag : Byte) (index : Nat)
  /-- A request on a slot: the slot number as received and its Tag when non-FREE (R41). -/
  | slot (number : Byte) (tag : Option Byte)
  /-- Interrogate, OK: the slot and its report, absent when FREE (R46). -/
  | report (slot : SlotId) (body : Option SlotReport)
  /-- Block Zone and Unblock Zone, OK: zone, Block State, stations in the Block Set (R54, R55). -/
  | zone (zone : ZoneId) (state : BlockState) (blockers : Nat)
  /-- Traffic Permit, OK: the permit and its seconds remaining, `none` when OFF (R65). -/
  | permit (seconds : Option Nat)
  /-- Hold, OK: the resulting level (R80). -/
  | hold (level : HoldLevel)
  /-- Emergency Reset: the loop state after the request (R137). -/
  | loop (state : LoopState)
  /-- Clear Faults, OK: the named flags still set, and the Fault Summary (R139). -/
  | faults (stillSet summary : BitVec 32)
  /-- Read Status, OK (R142). -/
  | status (faults : BitVec 32) (summary : Summary)
  /-- Read Configuration, OK: the bytes, the check value and the mark (R175). -/
  | config (bytes : List Byte) (check : BitVec 16) (mark : ConfigMark)
  /-- Write Configuration, OK: the check value and whether a Restart is needed (R174). -/
  | written (check : BitVec 16) (restartNeeded : Bool)
  /-- CONFIG_RANGE: the index of the failing field (R172). -/
  | field (index : Nat)
  /-- SEGMENT: the request kind as received and the failure; Tag and step index are 0 (R160). -/
  | segment (kind : Byte) (failure : SegFailure)
  deriving DecidableEq, Repr

/-- The kind of a PROGRESS notice with its further content (R47). -/
inductive Progress where
  | paused (cause : PauseCause)
  | stepStarted
  | passEnded (count : Nat)
  deriving DecidableEq, Repr

/-- Why the pump entered FAULT (R84). -/
inductive PumpCause where
  | start
  | pressure
  deriving DecidableEq, Repr

/-- The content of an ALERT notice (R80, R84, R135). -/
inductive Alert where
  | hold (level : HoldLevel) (station : StationId)
  | pumpFault (cause : PumpCause)
  | loop (new previous : LoopState) (closedA closedB : Bool) (station : Option StationId)
  deriving DecidableEq, Repr

/-- A notice (R180). -/
inductive Notice where
  | answer (kind : Byte) (code : Code) (result : Result)
  | progress (slot : SlotId) (tag : Byte) (step : Nat) (kind : Progress)
  | completion (record : Completion)
  | alert (content : Alert)
  deriving DecidableEq, Repr

/-- Link state of a crew station (R147). -/
inductive LinkState where
  | absent
  | searching
  | online
  | lost
  deriving DecidableEq, Repr

/-- The live part of a crew station record (R145). -/
structure Crew where
  link : LinkState
  miss : Nat
  good : Nat
  enable : Bool
  lastTaken : Byte
  nextNum : Byte
  queue : List (Byte × Notice)
  deriving DecidableEq, Repr

/-- A Poll (R144). `window` is stopped while the Poll is still being sent and runs from its end. -/
structure Poll where
  station : CrewId
  summary : Summary
  lastTaken : Byte
  notice : Option (Byte × Notice)
  window : Timer
  deriving DecidableEq, Repr

/-- Polling: the Poll not yet judged, and the station polled last in this round (R146). -/
structure Polling where
  current : Option Poll
  last : Option CrewId
  deriving DecidableEq, Repr

/-- The content of a Chassis Status frame (R156). -/
structure ChassisStatus where
  brake : Bool
  speed : Nat
  ignition : Bool
  engine : Bool
  deriving DecidableEq, Repr

/-- The vehicle as the Chassis Port knows it (R156). FRESH while the freshness timer runs. -/
structure Vehicle where
  status : Option ChassisStatus
  freshT : Timer
  deriving DecidableEq, Repr

/-- A run being gathered (R159). -/
structure Staging where
  kind : Byte
  total : Nat
  bytes : List Byte
  next : Nat
  gapT : Nat
  deriving DecidableEq, Repr

/-- The cab's side of the Chassis Port (R157, R159, R161). ONLINE while the presence timer runs. -/
structure CabPort where
  presenceT : Timer
  staging : Option Staging
  queue : List (Byte × Notice)
  next : Byte
  deriving DecidableEq, Repr

/-- What a run being sent carries (R161, R162). -/
inductive RunContent where
  | notice (body : Notice)
  | partStatus (summary : Summary) (driveOff : Bool) (faults : BitVec 32)
  deriving DecidableEq, Repr

/-- A run being sent: its content, its notice number or Part Status count, the base identifier it
was begun under, the index of the frame being sent, and whether it stops after that frame (R161). -/
structure TxRun where
  content : RunContent
  number : Byte
  base : Nat
  index : Nat
  abandoned : Bool
  deriving DecidableEq, Repr

/-- The CAN transmitter and the Part Status schedule (R161, R162). -/
structure Transmitter where
  run : Option TxRun
  due : Bool
  count : Byte
  periodT : Timer
  deriving DecidableEq, Repr

/-! ## The whole part -/

/-- The state of the part. `pending`, `clock` and `free` are the model's own: the commands waiting,
the milliseconds passed, and the number of free values used. -/
structure State where
  pending : List Instr
  clock : Nat
  free : Nat
  sm : SeqManager
  zt : ZoneTable
  arb : Arbiter
  sensors : Vector Sensor 7
  se : StrokeEngine
  bu : BeaconUnit
  loop : Loop
  faults : BitVec 32
  crew : Vector Crew 6
  poll : Polling
  veh : Vehicle
  cab : CabPort
  tx : Transmitter
  sup : Supply
  lines : Lines
  cfg : Cfg
  store : Store
  deriving DecidableEq, Repr

/-- The reasons a step could stop with a fault. There is none: every refusal of the manual is an
answer after which the part goes on (INVENTORY.md, "Faults"), so the type is empty and no command
can raise a fault. -/
inductive Fault where
  deriving DecidableEq, Repr

/-- The reasons a step could be refused. -/
inductive Refusal where
  /-- Raised by `exec`'s arm of a command that has no meaning yet; safe, since nothing follows from
  a refused step. No arm raises it. -/
  | notModelled (mnemonic : String)
  deriving DecidableEq, Repr

/-! ## Reset -/

/-- A FREE slot. Its other fields are without meaning (R21) and stand at one value (log 37). -/
def Slot.empty : Slot where
  state := .free
  owner := 0
  block := { tag := 0, cls := .routine, rep := .once, confirm := none, steps := [] }
  step := 0
  passCount := 0
  flag := false
  pauseCause := none
  ownerLost := false
  interrupted := false
  lastEnd := none
  endStep := none
  run := { lastMove := none, acceptShort := 0, joinDropped := false, wait := none }
  dwellT := none

/-- A sensor after reset (R116). -/
def Sensor.unsynced : Sensor where
  state := .unsynced
  last := none
  cand := none
  watchdog := none

/-- An axis at rest (R116). -/
def Drive.rest : Drive where
  level := 0
  valve := .neutral
  solenoid := false

/-- The status summary of the reset state. -/
def State.resetSummary : Summary where
  loop := .ready
  faults := true
  configFault := true
  supply := .normal
  power := .run
  holder := none
  hold := .none
  pump := .off
  driveOff := false
  permit := none
  zones := List.replicate 5 { position := .home, block := .unblocked, blockers := 0, warn := .quiet }
  axes := List.replicate 7 (some .unsynced)
  lamps := List.replicate 8 .ok
  slots := List.replicate 12 .free

/-- The part right after a start-up (R170) with the blank store of log 1 and the line levels of
log 2: every record at the value the chapters give for power-on (R22, R72, R92, R116, R129, R131,
R154, R163, R166, R167), in its CONFIG_FAULT form; the first Poll and the first Part Status are
being sent. -/
def State.reset : State where
  pending := []
  clock := 0
  free := 0
  sm := { slots := Vector.replicate 12 Slot.empty, queue := [] }
  zt :=
    { blocks := Vector.replicate 5
        { set := Vector.replicate 7 false, state := .unblocked, releaseT := none }
      position := Vector.replicate 5 .home
      intent := Vector.replicate 5 false
      driveOff := false
      permitT := none }
  arb :=
    { holder := none, hold := .none, pump := .off, startT := none, runOnT := none, lossT := none }
  sensors := Vector.replicate 7 Sensor.unsynced
  se := { drives := Vector.replicate 7 Drive.rest, stroke := none }
  bu :=
    { warns := Vector.replicate 5 { state := .quiet, preWarnT := none, runOut := false }
      beacons := Vector.replicate 8
        { demand := .fault, lit := true, lamp := .ok, low := 0, good := 0, fullOn := true }
      phase := 0
      sounder := false }
  loop := { state := .ready, closedA := true, closedB := true, discT := none, bothOpen := false }
  faults := 4
  crew := Vector.replicate 6
    { link := .searching, miss := 0, good := 0, enable := false, lastTaken := 0, nextNum := 0,
      queue := [] }
  poll :=
    { current := some { station := 0, summary := State.resetSummary, lastTaken := 0, notice := none,
                        window := none }
      last := some 0 }
  veh := { status := none, freshT := none }
  cab := { presenceT := none, staging := none, queue := [], next := 0 }
  tx :=
    { run := some { content := .partStatus State.resetSummary false 4, number := 0,
                    base := 0x0C4A2000, index := 0, abandoned := false }
      due := false
      count := 1
      periodT := some 200 }
  sup :=
    { supply := .normal, belowNormal := none, belowExh := none, aboveExh := none,
      aboveNormal := none, power := .run, standbyT := none }
  lines := { battery := 240, ignition := false, latchMade := Vector.replicate 4 true }
  cfg := Cfg.inFault
  store :=
    { bytes := List.replicate 393 0, torn := false, fault := true, programming := none,
      rewritten := false }

end Sys2Proof.Machine
end

