-- ==== Sys2Proof/Machine/Figures.lean ====
section
/-! DEFINITION. The figures the spec fixes, the numbering of items, and the small helpers every
block uses. Times are in milliseconds. -/

namespace Sys2Proof.Machine

/-! ## Fixed figures -/

/-- Latch wait of 500 ms (R96, R110). -/
def latchWaitMs : Nat := 500
/-- Stall confirmation of 300 ms (R96, R106). -/
def stallMs : Nat := 300
/-- Motion of 4 counts ends a stall (R96, R106). -/
def stallMotion : Nat := 4
/-- Sample watchdog of 50 ms (R93). -/
def watchdogMs : Nat := 50
/-- Two samples agree within 8 counts (R93). -/
def syncWindow : Nat := 8
/-- A position may change by 256 counts between samples (R94). -/
def jumpLimit : Nat := 256
/-- Pressure-loss timer of 500 ms (R88). -/
def pressureLossMs : Nat := 500
/-- Discrepancy timer of 200 ms (R131). -/
def discrepancyMs : Nat := 200
/-- Reply window of 10 ms (R144). -/
def replyWindowMs : Nat := 10
/-- Freshness timer of 500 ms (R156). -/
def freshnessMs : Nat := 500
/-- Presence timer of 1500 ms (R157). -/
def presenceMs : Nat := 1500
/-- Gap timer of 1000 ms (R159). -/
def gapMs : Nat := 1000
/-- Part Status period of 200 ms (R162). -/
def partStatusMs : Nat := 200
/-- Standby timer of ten minutes (R167). -/
def standbyMs : Nat := 600000
/-- Persistence of a supply condition (R164). -/
def persistenceMs : Nat := 2000
/-- Supply hysteresis of 0.4 V (R164). -/
def hysteresis : Nat := 4
/-- Span of the common phase timer (R126). -/
def phaseSpan : Nat := 12000
/-- A crew notice queue holds 4 notices (R151). -/
def crewQueueMax : Nat := 4
/-- The cab notice queue holds 8 notices (R161). -/
def cabQueueMax : Nat := 8
/-- A station owns at most 4 non-FREE slots (R17). -/
def stationSlotMax : Nat := 4
/-- Length of the Configuration Record (R183). -/
def recordLength : Nat := 393
/-- Speed at and above which an insecure body enters Drive-Off, in km/h (R62). -/
def driveOffSpeed : Nat := 3

/-- Bound on the steps that can complete inside one event. A slot completes at most the rest of a
pass and one further pass of 24 steps before it ends PASS_UNCLEARED (R40), so the bound is never
reached (log 16). -/
def chainBound : Nat := 64
/-- Bound on the strokes taken over at once (R111): a block has at most 24 steps (log 16). -/
def joinBound : Nat := 32
/-- Bound on the grants inside one event (R76): each of 12 slots can complete at most 48 steps at
zero travel before it ends PASS_UNCLEARED (log 16). -/
def grantBound : Nat := 640

/-! ## Items and their numbers -/

/-- The item numbered `n` among items numbered from 1 to `k` (spec/00 "Numbering"). -/
def itemOf (k n : Nat) : Option (Fin k) :=
  if h : 1 ≤ n ∧ n ≤ k then some ⟨n - 1, by omega⟩ else none

/-- The manual's number of an item. -/
def numberOf {k : Nat} (i : Fin k) : Nat := i.val + 1

/-- Slots in increasing number. -/
def allSlots : List SlotId := [0, 1, 2, 3, 4, 5, 6, 7, 8, 9, 10, 11]
/-- Axes in increasing number. -/
def allAxes : List AxisId := [0, 1, 2, 3, 4, 5, 6]
/-- Zones in increasing number. -/
def allZones : List ZoneId := [0, 1, 2, 3, 4]
/-- Beacons in increasing number. -/
def allBeacons : List BeaconId := [0, 1, 2, 3, 4, 5, 6, 7]
/-- Stations in increasing number, the cab first. -/
def allStations : List StationId := [0, 1, 2, 3, 4, 5, 6]
/-- Crew stations in increasing number. -/
def allCrew : List CrewId := [0, 1, 2, 3, 4, 5]

/-- The crew station with a station's number; none for the cab. -/
def crewOf (st : StationId) : Option CrewId := itemOf 6 st.val

/-- The station number of a crew station. -/
def stationOf (c : CrewId) : StationId := c.succ

/-- The axis of a door (spec/00 "Axes and zones"): doors are axes 4 to 7. -/
def doorAxis (d : DoorId) : AxisId := ⟨d.val + 3, by omega⟩

/-- The door of an axis, if it is one. -/
def axisDoor (a : AxisId) : Option DoorId :=
  if h : 3 ≤ a.val then some ⟨a.val - 3, by omega⟩ else none

/-! ## Helpers -/

/-- Replace one entry of a table by a function of it. -/
def upd {α : Type} {n : Nat} (v : Vector α n) (i : Fin n) (f : α → α) : Vector α n :=
  v.set i (f v[i])

/-- The magnitude of the difference of two values. -/
def gapOf (x y : Nat) : Nat := (x - y) + (y - x)

/-- Two positions lie within a tolerance of each other. -/
def near (x y tol : Nat) : Bool := gapOf x y ≤ tol

/-- ceil of a quotient (spec/00 "Arithmetic"). -/
def ceilDiv (a b : Nat) : Nat := (a + b - 1) / b

/-- Clamp a value to a range (spec/00 "Arithmetic"). -/
def clampTo (lo hi x : Nat) : Nat := max lo (min hi x)

/-- Increase a counter by one up to its bound. -/
def satInc (bound x : Nat) : Nat := min bound (x + 1)

/-- One millisecond passes for a timer; it stays at 0 until its expiry is taken (log 4). -/
def tickT (t : Timer) : Timer := t.map (· - 1)

/-- The duration of a running timer has passed, so that the timer expires (spec/00, Time and events;
log 4). -/
def due (t : Timer) : Bool := t == some 0

end Sys2Proof.Machine
end

