-- ==== Sys2Proof/Machine/Flags.lean ====
section
/-! DEFINITION. The Fault Summary: the flags of R138 at the positions of R181. -/

namespace Sys2Proof.Machine

/-- The flags of the Fault Summary (R138). -/
inductive Flag where
  | pump
  | loop
  | config
  | chassisStale
  | sensor (axis : AxisId)
  | lamp (beacon : BeaconId)
  | noticesLost (station : StationId)
  deriving DecidableEq, Repr

/-- The position of a flag in the 32-bit value (R181). -/
def Flag.position : Flag → Nat
  | .pump => 0
  | .loop => 1
  | .config => 2
  | .chassisStale => 3
  | .sensor a => 4 + a.val
  | .lamp b => 11 + b.val
  | .noticesLost st => 19 + st.val

/-- Every flag, in the order of its position. -/
def allFlags : List Flag :=
  [.pump, .loop, .config, .chassisStale] ++ allAxes.map .sensor ++ allBeacons.map .lamp
    ++ allStations.map .noticesLost

/-- Whether a flag is set in a map of flags. -/
def flagIn (map : BitVec 32) (f : Flag) : Bool := map.getLsbD f.position

/-- The map that holds one flag. -/
def flagBit (f : Flag) : BitVec 32 := 1#32 <<< f.position

/-- A report sets its flag (R138). -/
def raiseFlag (f : Flag) (map : BitVec 32) : BitVec 32 := map ||| flagBit f

/-- A flag is cleared (R139). -/
def dropFlag (f : Flag) (map : BitVec 32) : BitVec 32 := map &&& ~~~(flagBit f)

/-- Positions 26 to 31 carry no flag (R181). -/
def namesNoFlag (map : BitVec 32) : Bool := map >>> 26 != 0#32

end Sys2Proof.Machine
end

