-- ==== Sys2Proof/Machine/Layouts.lean ====
section
/-! DEFINITION. The byte layouts of chapter 11: check values, notices, the status summary, Polls and
the CAN runs the part sends. -/

namespace Sys2Proof.Machine

/-! ## Check values (R177) -/

/-- One bit of the CRC with generator x^16 + x^12 + x^5 + 1 (R177). -/
def crcBit (r : BitVec 16) : BitVec 16 :=
  if r.msb then (r <<< 1) ^^^ 0x1021#16 else r <<< 1

/-- One byte is fed in, most significant bit first (R177). -/
def crcByte (r : BitVec 16) (b : Byte) : BitVec 16 :=
  (List.range 8).foldl (fun x _ => crcBit x) (r ^^^ (b.zeroExtend 16 <<< 8))

/-- The 16-bit check value: the register starts with all ones, no final inversion (R177). -/
def crc16 (bytes : List Byte) : BitVec 16 := bytes.foldl crcByte 0xFFFF#16

/-! ## Fields -/

/-- A one-byte field. -/
def byteOf (n : Nat) : Byte := BitVec.ofNat 8 n

/-- A two-byte field, most significant byte first (R176). -/
def be16 (n : Nat) : List Byte := [byteOf (n / 256), byteOf n]

/-- A 16-bit value, most significant byte first. -/
def be16v (v : BitVec 16) : List Byte := be16 v.toNat

/-- A 32-bit value, most significant byte first. -/
def be32 (v : BitVec 32) : List Byte := be16 (v.toNat / 65536) ++ be16 v.toNat

/-- A one-byte field that may be absent, sent as 255 (R176). -/
def opt8 : Option Nat → Byte
  | some n => byteOf n
  | none => 255

/-- A two-byte field that may be absent, sent as 65535 (R176). -/
def opt16 : Option Nat → List Byte
  | some n => be16 n
  | none => be16 65535

/-- A code with 0 for absent. -/
def opt0 : Option Nat → Byte
  | some n => byteOf n
  | none => 0

/-- Two four-bit fields, the first in bits 7 to 4. -/
def nibbles (hi lo : Nat) : Byte := byteOf (hi % 16 * 16 + lo % 16)

/-- One flag as a byte of 0 or 1. -/
def flagByte (b : Bool) : Byte := if b then 1 else 0

/-! ## Codes -/

/-- Answer codes (R183). -/
def Code.value : Code → Nat
  | .ok => 0
  | .format => 1
  | .reserved => 2
  | .stepCount => 3
  | .cls => 4
  | .chainShape => 5
  | .action => 6
  | .axis => 7
  | .target => 8
  | .dwell => 9
  | .join => 10
  | .confirm => 11
  | .rights => 12
  | .stopped => 16
  | .configFault => 17
  | .busy => 18
  | .dupTag => 19
  | .stationLimit => 20
  | .noSlot => 21
  | .segment => 24
  | .wrongState => 32
  | .notOwner => 33
  | .badSlot => 34
  | .flagSet => 35
  | .notPermitted => 36
  | .badZone => 37
  | .badLevel => 38
  | .badFlag => 39
  | .badSection => 40
  | .configRange => 41
  | .badRequest => 42

/-- Classes (R178). -/
def SeqClass.value : SeqClass → Nat
  | .routine => 0
  | .priority => 1
  | .recovery => 2

/-- Repeat Modes (R178). -/
def RepeatMode.value : RepeatMode → Nat
  | .once => 0
  | .held => 1
  | .cycle => 2

/-- Slot states (R180). -/
def SlotState.value : SlotState → Nat
  | .free => 0
  | .queued => 1
  | .paused => 2
  | .dwelling => 3
  | .active => 4
  | .stopping => 5
  | .completed => 6

/-- Pause causes (R180). -/
def PauseCause.value : PauseCause → Nat
  | .step => 1
  | .ownerLost => 2

/-- End causes (R180). -/
def EndCause.value : EndCause → Nat
  | .normal => 1
  | .cancelled => 2
  | .short => 3
  | .timeout => 4
  | .stalled => 5
  | .over => 6
  | .latch => 7
  | .sensor => 8
  | .vehicle => 9
  | .zoneBlocked => 10
  | .emergency => 11
  | .pump => 12
  | .checkFailed => 13
  | .passUncleared => 14

/-- Wait reasons (R180). -/
def WaitReason.value : WaitReason → Nat
  | .hold => 1
  | .supply => 2
  | .pump => 3
  | .vehicle => 4
  | .sensor => 5
  | .blocked => 6
  | .conflict => 7
  | .traffic => 8
  | .enable => 9
  | .beacon => 10
  | .warning => 11
  | .grantBusy => 12

/-- Stroke phases (R180). -/
def Phase.value : Phase → Nat
  | .pumpWait => 1
  | .latchWait => 2
  | .driving => 3
  | .settling => 4
  | .stopping => 5

/-- Loop states (R181). -/
def LoopState.value : LoopState → Nat
  | .ready => 0
  | .tripped => 1
  | .closedWait => 2
  | .loopFault => 3

/-- Supply states (R181). -/
def SupplyState.value : SupplyState → Nat
  | .normal => 0
  | .reduced => 1
  | .exhausted => 2

/-- Power states (R181). -/
def PowerState.value : PowerState → Nat
  | .run => 0
  | .standby => 1
  | .parked => 2

/-- Hold levels (R181). -/
def HoldLevel.value : HoldLevel → Nat
  | .none => 0
  | .partly => 1
  | .full => 2

/-- Pump states (R181). -/
def PumpState.value : PumpState → Nat
  | .off => 0
  | .starting => 1
  | .ready => 2
  | .flowing => 3
  | .fault => 4

/-- Block States (R181). -/
def BlockState.value : BlockState → Nat
  | .unblocked => 0
  | .blocked => 1
  | .releasing => 2

/-- Warning states (R181). -/
def WarnState.value : WarnState → Nat
  | .quiet => 0
  | .warning => 1
  | .warned => 2

/-- Sensor states, 0 for an absent axis (R181). -/
def sensorValue : Option SensorState → Nat
  | none => 0
  | some .unsynced => 1
  | some .valid => 2
  | some .fault => 3

/-- Failures of a SEGMENT refusal (R180). -/
def SegFailure.value : SegFailure → Nat
  | .singleFrame => 0
  | .wrongIndex => 1
  | .newFirst => 2
  | .gap => 3
  | .length => 4

/-- The bytes of the mark of a Read Configuration answer (R175); without a mark there are none. The
byte is a free value (log 10). -/
def ConfigMark.bytes : ConfigMark → List Byte
  | .none => []
  | .checkFailed => [Config.markByte 1]
  | .notInForce => [Config.markByte 2]

/-- Request kinds (R179). -/
def kindSubmit : Byte := 1
def kindCancel : Byte := 2
def kindRelease : Byte := 3
def kindClearFlag : Byte := 4
def kindRerun : Byte := 5
def kindResume : Byte := 6
def kindInterrogate : Byte := 7
def kindBlockZone : Byte := 8
def kindUnblockZone : Byte := 9
def kindTrafficPermit : Byte := 10
def kindHold : Byte := 11
def kindReleaseHold : Byte := 12
def kindEmergencyReset : Byte := 13
def kindClearFaults : Byte := 14
def kindReadStatus : Byte := 15
def kindReadConfiguration : Byte := 16
def kindWriteConfiguration : Byte := 17
def kindRestart : Byte := 18

/-! ## Status summary (R181) -/

/-- A zone's byte of the status summary (R181). -/
def ZoneSummary.byte (z : ZoneSummary) : Byte :=
  byteOf ((if z.position = .opened then 128 else 0) + z.block.value * 32 + z.blockers % 8 * 4
    + z.warn.value)

/-- Fields packed side by side from the top, `width` bits each, as one number. -/
def packed (width : Nat) (fields : List Nat) : Nat :=
  fields.foldl (fun acc x => acc * 2 ^ width + x) 0

/-- The 21 bytes of the status summary (R181). The bits the table gives no field, 7 to 4 of byte 1 and 1 to
0 of byte 13, are sent as 0 (DESIGN CHOICE, log 47). -/
def Summary.bytes (s : Summary) : List Byte :=
  [ byteOf s.loop.value,
    byteOf ((if s.faults then 1 else 0) + (if s.configFault then 2 else 0)
      + (if s.driveOff then 4 else 0) + (if s.permit.isSome then 8 else 0)),
    nibbles s.supply.value s.power.value,
    opt0 (s.holder.map numberOf),
    nibbles s.hold.value s.pump.value ]
  ++ be16 (s.permit.getD 0)
  ++ s.zones.map ZoneSummary.byte
  ++ be16 (packed 2 (s.axes.map sensorValue) * 4)
  ++ [byteOf (packed 1 ((s.lamps.map fun l => if l = .failed then 1 else 0).reverse))]
  ++ be16 (packed 4 ((s.slots.take 4).map SlotState.value))
  ++ be16 (packed 4 (((s.slots.drop 4).take 4).map SlotState.value))
  ++ be16 (packed 4 (((s.slots.drop 8).take 4).map SlotState.value))

/-! ## Notices (R180) -/

/-- The completion record's own fields from byte 7 on (R180). -/
def RunRecord.bytes (r : RunRecord) : List Byte :=
  [opt0 (r.lastMove.map fun m => numberOf m.1)]
  ++ opt16 (r.lastMove.bind (·.2))
  ++ [byteOf r.acceptShort, flagByte r.joinDropped, opt0 (r.wait.map WaitReason.value)]

/-- The completion record (R180). -/
def Completion.bytes (c : Completion) : List Byte :=
  [byteOf (numberOf c.slot), byteOf c.owner.val, c.tag, byteOf c.cause.value, byteOf c.endStep]
  ++ be16 c.passCount ++ c.run.bytes

/-- The 22 bytes of an Interrogate result (R180). In FREE every other field is absent (R46, log 36). The
Completion Flag is sent as 1 or 0 (DESIGN CHOICE, log 43). -/
def reportBytes (slot : SlotId) : Option SlotReport → List Byte
  | none =>
    [byteOf (numberOf slot), 0, 255, 255, 255, 255] ++ be16 65535 ++ [255, 0, 0, 0]
      ++ be16 65535 ++ be16 65535 ++ be16 65535 ++ be16 65535 ++ [0, 255]
  | some r =>
    [ byteOf (numberOf slot), byteOf r.state.value, byteOf r.owner.val, r.tag,
      nibbles r.cls.value r.rep.value, byteOf r.step ]
    ++ be16 r.passCount
    ++ [ flagByte r.flag, opt0 (r.pauseCause.map PauseCause.value),
         opt0 (r.wait.map WaitReason.value), opt0 (r.phase.map Phase.value) ]
    ++ opt16 r.position ++ opt16 r.elapsed ++ opt16 r.limit ++ opt16 r.dwellLeft
    ++ [opt0 (r.lastEnd.map EndCause.value), opt8 r.endStep]

/-- The result of an answer (R180). The permit's state is sent as 1 for ON and 0 for OFF (DESIGN CHOICE,
log 43). -/
def Result.bytes : Result → List Byte
  | .none => []
  | .submit i tag index => [opt8 (i.map numberOf), tag, byteOf index]
  | .slot number tag => [number, tag.getD 255]
  | .report i body => reportBytes i body
  | .zone z st n => [byteOf (numberOf z), byteOf st.value, byteOf n]
  | .permit secs => [flagByte secs.isSome] ++ be16 (secs.getD 0)
  | .hold level => [byteOf level.value]
  | .loop st => [byteOf st.value]
  | .faults still all => be32 still ++ be32 all
  | .status f sm => be32 f ++ sm.bytes
  | .config bytes check mark =>
    bytes ++ be16v check ++ mark.bytes
  | .written check needed => be16v check ++ (if needed then [Config.markByte 3] else [])
  | .field i => be16 i
  | .segment kind failure => [kind, 0, 0, byteOf failure.value]

/-- The content of an ALERT (R180). -/
def Alert.bytes : Alert → List Byte
  | .hold level st => [1, byteOf level.value, byteOf st.val]
  | .pumpFault c => [2, if c = .start then 1 else 2]
  | .loop new old a b st =>
    [3, byteOf new.value, byteOf old.value, flagByte a, flagByte b, opt8 (st.map (·.val))]

/-- The notice body, the same on both links (R180). -/
def Notice.bytes : Notice → List Byte
  | .answer kind code result => [1, kind, byteOf code.value] ++ result.bytes
  | .progress slot tag step kind =>
    [2, byteOf (numberOf slot), tag, byteOf step] ++
      (match kind with
       | .paused c => [1, byteOf c.value]
       | .stepStarted => [2]
       | .passEnded n => 3 :: be16 n)
  | .completion record => 3 :: record.bytes
  | .alert content => 4 :: content.bytes

/-- Whether a notice travels as a Cab Answer (R161). -/
def Notice.isAnswer : Notice → Bool
  | .answer _ _ _ => true
  | _ => false

/-! ## Frames the part sends -/

/-- The bytes of a Poll (R179). -/
def Poll.bytes (p : Poll) : List Byte :=
  let tail := match p.notice with
    | none => []
    | some (n, body) => n :: body.bytes
  let front := [byteOf (numberOf p.station), byteOf (26 + tail.length), p.lastTaken]
    ++ p.summary.bytes ++ tail
  front ++ be16v (crc16 front)

/-- The content of a run (R182). -/
def RunContent.bytes : RunContent → List Byte
  | .notice body => body.bytes
  | .partStatus sum alert f => sum.bytes ++ [flagByte alert] ++ be32 f

/-- The identifier offset of a run (R182). -/
def RunContent.offset : RunContent → Nat
  | .notice body => if body.isAnswer then 8 else 9
  | .partStatus _ _ _ => 10

/-- How many data frames follow the first frame: six bytes each (R161). -/
def dataFrames (len : Nat) : Nat := ceilDiv len 6

/-- The frame of a run that is being sent: its identifier and its data bytes (R182). The bytes
that fill up the last data frame are free values (log 19). -/
def TxRun.frame (r : TxRun) : Nat × List Byte :=
  let content := r.content.bytes
  let data :=
    if r.index = 0 then [0, r.number] ++ be16 content.length
    else
      let part := (content.drop (6 * (r.index - 1))).take 6
      byteOf r.index :: (part ++ (List.range (6 - part.length)).map (Config.padByte content))
  (r.base + r.content.offset, data)

/-- Whether the frame being sent is the last of its run. -/
def TxRun.atLast (r : TxRun) : Bool := dataFrames r.content.bytes.length ≤ r.index

end Sys2Proof.Machine
end

