-- ==== Sys2Proof/Machine/ConfigRecord.lean ====
section
/-! DEFINITION. The Configuration Record as bytes (R183): its fields, its ranges (R172), its parts
for Read Configuration (R175) and its check value (R177).

Where one byte holds several fields and R183 gives no bit places, the places are a DESIGN CHOICE
(log 7): two fields stand in bits 7-4 and 3-0, in the order R183 names them, as the packed bytes of
R178 do; the four fields of a station's byte take two bits each from the top; bit `z` of a zone mask
is zone `z + 1`. A flag is 1 for set and 0 for clear, and any other value is out of its range (log 7). -/

namespace Sys2Proof.Machine

/-! ## Reading fields -/

/-- The byte at an offset. -/
def u8 (r : List Byte) (o : Nat) : Nat := (r.getD o 0).toNat
/-- The two-byte field at an offset. -/
def u16 (r : List Byte) (o : Nat) : Nat := u8 r o * 256 + u8 r (o + 1)
/-- The four-byte field at an offset. -/
def u32 (r : List Byte) (o : Nat) : Nat := u16 r o * 65536 + u16 r (o + 2)
/-- Bits 7 to 4 of the byte at an offset. -/
def hi4 (r : List Byte) (o : Nat) : Nat := u8 r o / 16
/-- Bits 3 to 0 of the byte at an offset. -/
def lo4 (r : List Byte) (o : Nat) : Nat := u8 r o % 16
/-- Two bits of a byte, the pair `k` counted from the top. -/
def pairOf (r : List Byte) (o k : Nat) : Nat := u8 r o / 4 ^ (3 - k) % 4

/-- Offset of an axis record. -/
def axisAt (a : AxisId) : Nat := 18 + 29 * a.val
/-- Offset of a zone record. -/
def zoneAt (z : ZoneId) : Nat := 221 + 5 * z.val
/-- Offset of a Conflict Table entry. -/
def entryAt (e : Nat) : Nat := 247 + 6 * e
/-- Offset of a beacon record. -/
def beaconAt (b : BeaconId) : Nat := 343 + 4 * b.val
/-- Offset of a crew station record. -/
def stationAt (c : CrewId) : Nat := 379 + 2 * c.val

/-! ## The record as the blocks read it -/

/-- One axis record (R96, R183). -/
def readAxis (r : List Byte) (a : AxisId) : AxisCfg :=
  let o := axisAt a
  { present := hi4 r o != 0
    zone := itemOf 5 (lo4 r o)
    home := u16 r (o + 1)
    elo := u16 r (o + 3)
    ehi := u16 r (o + 5)
    rate := u16 r (o + 7)
    vmin := u16 r (o + 9)
    creep := u16 r (o + 11)
    slow := u16 r (o + 13)
    normal := u16 r (o + 15)
    ws := u16 r (o + 17)
    we := u16 r (o + 19)
    tb := u8 r (o + 21)
    settle := u16 r (o + 22)
    ts := u16 r (o + 24)
    pstall := u16 r (o + 26)
    latch := u8 r (o + 28) != 0 }

/-- One zone record (R50, R183). -/
def readZone (r : List Byte) (z : ZoneId) : ZoneCfg :=
  let o := zoneAt z
  { trafficSide := hi4 r o != 0
    sounderOnMotion := lo4 r o != 0
    preWarn := u16 r (o + 1)
    releaseDelay := u16 r (o + 3) }

/-- One Conflict Table entry (R58, R183). -/
def readEntry (r : List Byte) (e : Nat) : ConflictEntry :=
  let o := entryAt e
  { guarded := itemOf 7 (u8 r o)
    lo := u16 r (o + 1)
    hi := u16 r (o + 3)
    blocked := itemOf 7 (hi4 r (o + 5))
    dir := match lo4 r (o + 5) with
      | 1 => .extend
      | 2 => .retract
      | _ => .both }

/-- One beacon record (R124, R183). -/
def readBeacon (r : List Byte) (b : BeaconId) : BeaconCfg :=
  let o := beaconAt b
  { mask := r.getD o 0
    lampCheck := u8 r (o + 1) != 0
    imin := u16 r (o + 2) }

/-- The period of a period index (R125). -/
def periodOf (index : Nat) : Nat := [200, 300, 400, 500, 600, 800, 1000, 1500].getD index 0

/-- One pattern entry, `k` counted from 0 in the order FAULT, WARNING, BLOCKED, OPEN (R125). -/
def readPattern (r : List Byte) (k : Nat) : Pattern :=
  { period := periodOf (hi4 r (375 + k)), share := 25 * lo4 r (375 + k) }

/-- One crew station record (R145, R183). -/
def readStation (r : List Byte) (c : CrewId) : StationCfg :=
  let o := stationAt c
  { present := pairOf r o 0 != 0
    role := match pairOf r o 1 with
      | 1 => .pendant
      | 2 => .panel
      | _ => .bridge
    level := pairOf r o 2
    confirmRight := pairOf r o 3 != 0
    rights := r.getD (o + 1) 0 }

/-- The Conflict Table's entry count (R183). -/
def entryCount (r : List Byte) : Nat := min 16 (u8 r 246)

/-- The record as it comes into force (R172, R183). -/
def readCfg (r : List Byte) : Cfg :=
  { pready := u8 r 0
    plost := u8 r 1
    tn := u8 r 2
    tx := u8 r 3
    startLimit := u16 r 4
    runOn := u16 r 6
    margin := u16 r 8
    grace := u16 r 10
    permitSeconds := u16 r 12
    canBase := u32 r 14
    axes := #v[readAxis r 0, readAxis r 1, readAxis r 2, readAxis r 3, readAxis r 4, readAxis r 5,
      readAxis r 6]
    zones := #v[readZone r 0, readZone r 1, readZone r 2, readZone r 3, readZone r 4]
    conflicts := (List.range (entryCount r)).map (readEntry r)
    beacons := #v[readBeacon r 0, readBeacon r 1, readBeacon r 2, readBeacon r 3, readBeacon r 4,
      readBeacon r 5, readBeacon r 6, readBeacon r 7]
    patFault := readPattern r 0
    patWarning := readPattern r 1
    patBlocked := readPattern r 2
    patOpen := readPattern r 3
    stations := #v[readStation r 0, readStation r 1, readStation r 2, readStation r 3,
      readStation r 4, readStation r 5] }

/-! ## The check value (R177) -/

/-- The check value computed over every byte before the stored one. -/
def recordCheck (r : List Byte) : BitVec 16 := crc16 (r.take 391)

/-- The check value the record carries. -/
def carriedCheck (r : List Byte) : BitVec 16 := BitVec.ofNat 16 (u16 r 391)

/-- The comparison of R170 and of field 293. -/
def checkPasses (r : List Byte) : Bool := recordCheck r == carriedCheck r

/-! ## Ranges (R172) -/

/-- A value lies in a range. -/
def within (lo hi x : Nat) : Bool := lo ≤ x && x ≤ hi

/-- Fields 1 to 10, each with whether it holds. A relation counts at the later field (R183). -/
def deviceRanges (r : List Byte) : List (Nat × Bool) :=
  [ (1, within 20 150 (u8 r 0)),
    (2, within 5 50 (u8 r 1) && u8 r 1 < u8 r 0),
    (3, within 190 255 (u8 r 2)),
    (4, within 180 250 (u8 r 3) && u8 r 3 + 5 ≤ u8 r 2),
    (5, within 500 5000 (u16 r 4)),
    (6, within 0 10000 (u16 r 6)),
    (7, within 110 300 (u16 r 8)),
    (8, within 0 2000 (u16 r 10)),
    (9, within 30 600 (u16 r 12)),
    (10, within 0 536870901 (u32 r 14)) ]

/-- The 17 fields of an axis record (R96, R172). The codes of the flags are those of log 7. -/
def axisRanges (r : List Byte) (a : AxisId) : List (Nat × Bool) :=
  let o := axisAt a
  let x := readAxis r a
  let n := 11 + 17 * a.val
  [ (n, within 0 1 (hi4 r o)),
    (n + 1, within 1 5 (lo4 r o)),
    (n + 2, within 0 4095 x.home),
    (n + 3, within 0 4095 x.elo && x.elo ≤ x.home),
    (n + 4, within 0 4095 x.ehi && x.home ≤ x.ehi && x.elo < x.ehi),
    (n + 5, within 50 2000 x.rate),
    (n + 6, within 50 400 x.vmin),
    (n + 7, within x.vmin 1000 x.creep),
    (n + 8, within x.creep 1000 x.slow),
    (n + 9, within x.slow 1000 x.normal),
    (n + 10, within 0 1023 x.ws),
    (n + 11, within 0 1023 x.we),
    (n + 12, within 4 255 x.tb),
    (n + 13, within 0 1000 x.settle),
    (n + 14, within 0 500 x.ts),
    (n + 15, within 50 300 x.pstall),
    (n + 16, within 0 (if 3 ≤ a.val then 1 else 0) (u8 r (o + 28))) ]

/-- The 4 fields of a zone record (R50, R172). -/
def zoneRanges (r : List Byte) (z : ZoneId) : List (Nat × Bool) :=
  let o := zoneAt z
  let n := 130 + 4 * z.val
  [ (n, within 0 1 (hi4 r o)),
    (n + 1, within 0 1 (lo4 r o)),
    (n + 2, within 0 5000 (u16 r (o + 1))),
    (n + 3, within 0 10000 (u16 r (o + 3))) ]

/-- The 5 fields of a Conflict Table entry (R58, R172). -/
def entryRanges (r : List Byte) (e : Nat) : List (Nat × Bool) :=
  let o := entryAt e
  let n := 151 + 5 * e
  [ (n, within 1 7 (u8 r o)),
    (n + 1, within 0 4095 (u16 r (o + 1))),
    (n + 2, within (u16 r (o + 1)) 4095 (u16 r (o + 3))),
    (n + 3, within 1 7 (hi4 r (o + 5))),
    (n + 4, within 1 3 (lo4 r (o + 5))) ]

/-- Whether a zone mask includes a zone (log 7). -/
def maskHas (mask : Byte) (z : ZoneId) : Bool := mask.getLsbD z.val

/-- Every zone with a present axis is in the mask of at least one beacon (R119, R172). -/
def zonesMapped (r : List Byte) : Bool :=
  let c := readCfg r
  allZones.all fun z =>
    !(allAxes.any fun a => c.axes[a].present && c.axes[a].zone == some z)
      || allBeacons.any fun b => maskHas c.beacons[b].mask z

/-- The 3 fields of a beacon record (R124, R172). The mapping rule is reported at field 252. -/
def beaconRanges (r : List Byte) (b : BeaconId) : List (Nat × Bool) :=
  let o := beaconAt b
  let n := 231 + 3 * b.val
  [ (n, within 1 31 (u8 r o) && (b != 7 || zonesMapped r)),
    (n + 1, within 0 1 (u8 r (o + 1))),
    (n + 2, within 20 2000 (u16 r (o + 2))) ]

/-- The 2 fields of a pattern entry (R125, R172). -/
def patternRanges (r : List Byte) (k : Nat) : List (Nat × Bool) :=
  [ (255 + 2 * k, within 0 7 (hi4 r (375 + k))),
    (256 + 2 * k, within 1 3 (lo4 r (375 + k))) ]

/-- The 5 fields of a crew station record (R145, R172). -/
def stationRanges (r : List Byte) (c : CrewId) : List (Nat × Bool) :=
  let o := stationAt c
  let n := 263 + 5 * c.val
  [ (n, within 0 1 (pairOf r o 0)),
    (n + 1, within 1 3 (pairOf r o 1)),
    (n + 2, within 0 1 (pairOf r o 2)),
    (n + 3, within 0 1 (pairOf r o 3)),
    (n + 4, within 0 31 (u8 r (o + 1))) ]

/-- Every field in record order with whether it holds (R172, R183). Entries beyond the count are not
examined. -/
def recordRanges (r : List Byte) : List (Nat × Bool) :=
  deviceRanges r ++ allAxes.flatMap (axisRanges r) ++ allZones.flatMap (zoneRanges r)
    ++ [(150, within 0 16 (u8 r 246))]
    ++ (List.range (entryCount r)).flatMap (entryRanges r)
    ++ allBeacons.flatMap (beaconRanges r)
    ++ (List.range 4).flatMap (patternRanges r)
    ++ allCrew.flatMap (stationRanges r)
    ++ [(293, checkPasses r)]

/-- The index of the first field that fails, if any (R172). -/
def rangeFailure (r : List Byte) : Option Nat :=
  ((recordRanges r).find? fun f => !f.2).map (·.1)

/-! ## Parts for Read Configuration (R175, R183) -/

/-- Offset and length of the part of the record with a number 1 to 13. -/
def partSpan (n : Nat) : Option (Nat × Nat) :=
  if n = 1 then some (0, 18)
  else if 2 ≤ n ∧ n ≤ 8 then some (18 + 29 * (n - 2), 29)
  else if n = 9 then some (221, 25)
  else if n = 10 then some (246, 97)
  else if n = 11 then some (343, 32)
  else if n = 12 then some (375, 4)
  else if n = 13 then some (379, 12)
  else none

/-- The bytes of a part. -/
def partBytes (r : List Byte) (span : Nat × Nat) : List Byte := (r.drop span.1).take span.2

end Sys2Proof.Machine
end

