-- ==== Sys2Proof/Machine/Operands.lean ====
section
/-! DEFINITION. What the part reads from the operands of its commands: a sequence block with the
checks that need only the block and the record in force (R9 to R16, R178), a request (R179), a Reply
(R144, R179), a Chassis Status frame (R182, R184) and a received identifier (R155). -/

namespace Sys2Proof.Machine

/-! ## Sequence blocks (R178) -/

/-- A step word as received. `reserved` holds every reserved bit. -/
structure RawStep where
  action : Nat
  axis : Nat
  target : Nat
  speed : Nat
  chain : Bool
  join : Bool
  acceptShort : Bool
  pause : Bool
  notify : Bool
  holdToRun : Bool
  dwell : Nat
  reserved : Bool
  deriving DecidableEq, Repr

/-- Read one step word of six bytes (R178). -/
def readStep (w : List Byte) : RawStep :=
  let f := u8 w 3
  { action := hi4 w 0
    axis := lo4 w 0
    target := u16 w 1 % 4096
    speed := f / 64
    chain := f.testBit 5
    join := f.testBit 4
    acceptShort := f.testBit 3
    pause := f.testBit 2
    notify := f.testBit 1
    holdToRun := f.testBit 0
    dwell := u16 w 4 % 1024
    reserved := u16 w 1 / 4096 != 0 || u16 w 4 / 1024 != 0 }

/-- A block as received: the header's fields and the whole step words that follow it. `ragged`: the
bytes after the header are not a whole number of step words. -/
structure RawBlock where
  format : Nat
  tag : Byte
  cls : Nat
  rep : Nat
  confirm : Nat
  count : Nat
  reserved : Nat
  steps : List RawStep
  ragged : Bool
  deriving DecidableEq, Repr

/-- Read a block (R178). -/
def readBlock (bytes : List Byte) : RawBlock :=
  let body := bytes.drop 6
  { format := u8 bytes 0
    tag := bytes.getD 1 0
    cls := hi4 bytes 2
    rep := lo4 bytes 2
    confirm := u8 bytes 3
    count := u8 bytes 4
    reserved := u8 bytes 5
    steps := (List.range (body.length / 6)).map fun k => readStep ((body.drop (6 * k)).take 6)
    ragged := body.length % 6 != 0 }

/-- The lowest step index, counted from `k`, at which a test of a step and the steps after it
fails. -/
def firstBad (bad : RawStep → List RawStep → Bool) : Nat → List RawStep → Option Nat
  | _, [] => none
  | k, st :: rest => if bad st rest then some k else firstBad bad (k + 1) rest

/-- A step that has an axis: a MOVE or a CHECK. -/
def RawStep.hasAxis (st : RawStep) : Bool := st.action == 1 || st.action == 3

/-- The axis record a step names, if that axis is present (check 7, R13). -/
def stepAxisCfg (c : Cfg) (st : RawStep) : Option AxisCfg :=
  (itemOf 7 st.axis).bind fun a => if c.axes[a].present then some c.axes[a] else none

/-- Check 5, CHAIN_SHAPE (R12). -/
def badChain (st : RawStep) (rest : List RawStep) : Bool :=
  if rest.isEmpty then st.chain else !st.chain

/-- Check 6, ACTION (R12). -/
def badAction (st : RawStep) (_ : List RawStep) : Bool :=
  !(within 1 3 st.action) || st.speed == 3
    || (st.action == 2 && (st.axis != 0 || st.target != 0))
    || (st.hasAxis && st.dwell != 0)

/-- Check 7, AXIS (R13). -/
def badAxis (c : Cfg) (st : RawStep) (_ : List RawStep) : Bool :=
  st.hasAxis && (stepAxisCfg c st).isNone

/-- Check 8, TARGET (R13). -/
def badTarget (c : Cfg) (st : RawStep) (_ : List RawStep) : Bool :=
  st.hasAxis && (match stepAxisCfg c st with
    | some x => !(within x.elo x.ehi st.target)
    | none => false)

/-- Check 9, DWELL (R13). -/
def badDwell (st : RawStep) (_ : List RawStep) : Bool :=
  st.action == 2 && !(within 1 600 st.dwell)

/-- Check 10, JOIN (R14). `tols` is false in CONFIG_FAULT, where the tolerance is not read (R10). -/
def badJoin (tols : Bool) (c : Cfg) (st : RawStep) (rest : List RawStep) : Bool :=
  st.join && (st.action != 1 || !st.chain || (match rest with
    | [] => true
    | nxt :: _ =>
      nxt.action != 1 || nxt.axis != st.axis || nxt.pause
        || (tols && (match stepAxisCfg c st with
            | some x => near st.target nxt.target x.tb
            | none => false))))

/-- The level of a station (R79): the cab is level 1. -/
def levelOf (c : Cfg) (st : StationId) : Nat :=
  match crewOf st with
  | none => 1
  | some k => c.stations[k].level

/-- A station has rights in a zone (R16, R54): the cab in every zone. -/
def hasRights (c : Cfg) (st : StationId) (z : ZoneId) : Bool :=
  match crewOf st with
  | none => true
  | some k => c.stations[k].present && maskHas c.stations[k].rights z

/-- Check 12, RIGHTS (R16). -/
def badRights (c : Cfg) (from_ : StationId) (st : RawStep) (_ : List RawStep) : Bool :=
  st.hasAxis && crewOf from_ != none && (match (stepAxisCfg c st).bind (·.zone) with
    | some z => !(hasRights c from_ z)
    | none => true)

/-- Check 11, CONFIRM, with its index (R15). -/
def confirmFailure (c : Cfg) (b : RawBlock) : Option Nat :=
  if b.confirm = 0 then firstBad (fun st _ => st.holdToRun) 1 b.steps
  else match itemOf 6 b.confirm with
    | none => some 0
    | some k => if c.stations[k].present && c.stations[k].confirmRight then none else some 0

/-- One check of R10: its code and, if it fails, the index reported. -/
abbrev CheckResult := Code × Option Nat

/-- Checks 1 to 12 in their order (R10). In CONFIG_FAULT the checks that read the Configuration
Record are taken as passed (R17). -/
def formatChecks (configFault : Bool) (c : Cfg) (from_ : StationId) (bytes : List Byte) :
    List CheckResult :=
  let b := readBlock bytes
  let cfgCheck (r : Option Nat) : Option Nat := if configFault then none else r
  [ (.format, if bytes.length < 6 || b.format != 1 then some 0 else none),
    (.reserved,
      if b.reserved != 0 || 2 < b.cls || 2 < b.rep then some 0
      else firstBad (fun st _ => st.reserved) 1 b.steps),
    (.stepCount,
      if b.count = 0 || 24 < b.count || b.count != b.steps.length || b.ragged then some 0
      else none),
    (.cls, cfgCheck (if b.cls = 2 && levelOf c from_ = 0 then some 0 else none)),
    (.chainShape, firstBad badChain 1 b.steps),
    (.action, firstBad badAction 1 b.steps),
    (.axis, cfgCheck (firstBad (badAxis c) 1 b.steps)),
    (.target, cfgCheck (firstBad (badTarget c) 1 b.steps)),
    (.dwell, firstBad badDwell 1 b.steps),
    (.join, firstBad (badJoin (!configFault) c) 1 b.steps),
    (.confirm, cfgCheck (confirmFailure c b)),
    (.rights, cfgCheck (firstBad (badRights c from_) 1 b.steps)) ]

/-- The first check that fails, with the index it reports (R10). -/
def firstFailure : List CheckResult → Option (Code × Nat)
  | [] => none
  | (code, some k) :: _ => some (code, k)
  | (_, none) :: rest => firstFailure rest

/-- The Tag an answer to a Submit carries: as received, or 0 where the block is too short (R9). -/
def submitTag (bytes : List Byte) : Byte :=
  if bytes.length < 6 then 0 else bytes.getD 1 0

/-- The stored form of a step word (R1, R3). -/
def RawStep.store (st : RawStep) : Step :=
  { action := if st.action = 1 then .move else if st.action = 2 then .dwell else .check
    axis := st.axis
    target := st.target
    speed := if st.speed = 0 then .creep else if st.speed = 1 then .slow else .normal
    chain := st.chain
    join := st.join
    acceptShort := st.acceptShort
    pause := st.pause
    notify := st.notify
    holdToRun := st.holdToRun
    dwell := st.dwell }

/-- The stored form of a block that passed the checks (R1, R2). -/
def storedBlock (bytes : List Byte) : Block :=
  let b := readBlock bytes
  { tag := b.tag
    cls := if b.cls = 0 then .routine else if b.cls = 1 then .priority else .recovery
    rep := if b.rep = 0 then .once else if b.rep = 1 then .held else .cycle
    confirm := itemOf 6 b.confirm
    steps := b.steps.map RawStep.store }

/-! ## Requests (R179) -/

/-- A request as decoded. Numbers and codes stand as received; their owners judge them. -/
inductive Request where
  | submit (block : List Byte)
  | cancel (slot : Byte)
  | release (slot : Byte)
  | clearFlag (slot : Byte)
  | rerun (slot : Byte)
  | resume (slot : Byte)
  | interrogate (slot : Byte)
  | blockZone (zone : Byte)
  | unblockZone (zone : Byte)
  | trafficPermit (code : Byte)
  | hold (level : Byte)
  | releaseHold
  | emergencyReset
  | clearFaults (map : BitVec 32)
  | readStatus
  | readConfiguration (part : Byte)
  | writeConfiguration (record : List Byte)
  | restart
  deriving DecidableEq, Repr

/-- A request with one parameter byte. -/
def oneByte (mk : Byte → Request) : List Byte → Option Request
  | [x] => some (mk x)
  | _ => none

/-- A request without parameters. -/
def noBytes (r : Request) : List Byte → Option Request
  | [] => some r
  | _ => none

/-- Decode a request from its kind and the bytes after it; `none` when it cannot be decoded: the
kind is not 1 to 18, or the bytes are more or fewer than the kind's parameters. A Submit and a Write
Configuration are exempt from the count (R184). -/
def decodeRequest (kind : Byte) (params : List Byte) : Option Request :=
  match kind.toNat with
  | 1 => some (.submit params)
  | 2 => oneByte .cancel params
  | 3 => oneByte .release params
  | 4 => oneByte .clearFlag params
  | 5 => oneByte .rerun params
  | 6 => oneByte .resume params
  | 7 => oneByte .interrogate params
  | 8 => oneByte .blockZone params
  | 9 => oneByte .unblockZone params
  | 10 => oneByte .trafficPermit params
  | 11 => oneByte .hold params
  | 12 => noBytes .releaseHold params
  | 13 => noBytes .emergencyReset params
  | 14 =>
    if params.length = 4 then some (.clearFaults (BitVec.ofNat 32 (u32 params 0))) else none
  | 15 => noBytes .readStatus params
  | 16 => oneByte .readConfiguration params
  | 17 => some (.writeConfiguration params)
  | 18 => noBytes .restart params
  | _ => none

/-! ## Replies (R144, R179) -/

/-- The fields of a good Reply. `body` is the request's kind byte and its parameters. -/
structure ReplyFields where
  enable : Bool
  number : Byte
  body : List Byte
  deriving DecidableEq, Repr

/-- Judge a Reply to a Poll of a station: its fields when it is good, `none` when it is a miss
(R144, R177). -/
def readReply (polled : CrewId) (frame : List Byte) : Option ReplyFields :=
  let n := frame.length
  let crcGood := within 6 160 n && u8 frame 1 == n
    && crc16 (frame.take (n - 2)) == BitVec.ofNat 16 (u16 frame (n - 2))
  if crcGood && u8 frame 0 == 128 + numberOf polled then
    some { enable := u8 frame 2 == 1, number := frame.getD 3 0,
           body := (frame.take (n - 2)).drop 4 }
  else none

/-! ## Chassis Port frames -/

/-- Read a Chassis Status frame; `none` when it is malformed (R182, R184). -/
def readChassis (data : List Byte) : Option ChassisStatus :=
  if data.length < 4 || 1 < u8 data 0 || 1 < u8 data 2 || 1 < u8 data 3 || 250 < u8 data 1 then none
  else some { brake := u8 data 0 == 1, speed := u8 data 1, ignition := u8 data 2 == 1,
              engine := u8 data 3 == 1 }

/-- The kinds of frame the Chassis Port receives (R155). -/
inductive RxKind where
  | chassisStatus
  | cabPresence
  | cabRequest
  | cabSegment
  deriving DecidableEq, Repr

/-- The kind of a received frame by its identifier (R155, R182). -/
def rxKind (c : Cfg) (ident : CanIdent) : Option RxKind :=
  if !ident.extended || ident.remote then none
  else if ident.value = c.canBase then some .chassisStatus
  else if ident.value = c.canBase + 1 then some .cabPresence
  else if ident.value = c.canBase + 2 then some .cabRequest
  else if ident.value = c.canBase + 3 then some .cabSegment
  else none

end Sys2Proof.Machine
end

