-- ==== Sys2Proof/Machine/Access.lean ====
section
/-! DEFINITION. What the blocks read from the state: the current step of a slot, an axis's known
position, the vehicle condition, the conditions of the supply and power control, and the status
summary. Nothing here changes the state. -/

namespace Sys2Proof.Machine

/-! ## Slots -/

/-- The record of a slot. -/
def State.slot (s : State) (i : SlotId) : Slot := s.sm.slots[i]

/-- The current step of a slot (R20, R26). -/
def Slot.curStep (x : Slot) : Option Step := x.block.steps[x.step - 1]?

/-- The step after the current one. -/
def Slot.nextStep (x : Slot) : Option Step := x.block.steps[x.step]?

/-- The axis of a step: that of a MOVE or a CHECK; a DWELL has none (R3). -/
def Step.axisId (st : Step) : Option AxisId :=
  if st.action = .dwell then none else itemOf 7 st.axis

/-- The axis of a slot's current step. -/
def Slot.curAxis (x : Slot) : Option AxisId := x.curStep.bind Step.axisId

/-- The slot is QUEUED, ACTIVE or STOPPING: the states Drive-Off counts (R62). -/
def Slot.inMotionSet (x : Slot) : Bool :=
  x.state == .queued || x.state == .active || x.state == .stopping

/-- The current step has a flag. -/
def Slot.stepHas (x : Slot) (f : Step → Bool) : Bool :=
  match x.curStep with
  | some st => f st
  | none => false

/-- How many non-FREE slots a station owns (R17). -/
def ownedCount (s : State) (st : StationId) : Nat :=
  (allSlots.filter fun i => (s.slot i).state != .free && (s.slot i).owner == st).length

/-- The lowest-numbered FREE slot (R18). -/
def lowestFree (s : State) : Option SlotId := allSlots.find? fun i => (s.slot i).state == .free

/-- Every slot is FREE. -/
def allSlotsFree (s : State) : Bool := allSlots.all fun i => (s.slot i).state == .free

/-! ## Axes -/

/-- The axis record in force. -/
def State.axisCfg (s : State) (a : AxisId) : AxisCfg := s.cfg.axes[a]

/-- The position of an axis, known only while its sensor is VALID (R94). -/
def State.axisPos (s : State) (a : AxisId) : Option Nat :=
  if s.sensors[a].state = .valid then s.sensors[a].last else none

/-- The last VALID position as a number; a stroke runs only with the sensor VALID (R98). -/
def State.lastPos (s : State) (a : AxisId) : Nat := s.sensors[a].last.getD 0

/-- The latch switch of an axis reads made; an axis without a switch has no such reading. -/
def State.latchMade (s : State) (a : AxisId) : Bool :=
  match axisDoor a with
  | some d => s.lines.latchMade[d]
  | none => false

/-- The direction of a motion (R4). -/
def dirOf (p t : Nat) : Dir := if p < t then .extend else .retract

/-- A motion from `p` to `t` is toward home (R52). -/
def towardHome (p t home tb : Nat) : Bool :=
  near t home tb || (p < t && t < home) || (home < t && t < p)

/-! ## The vehicle, the supply and the power state -/

/-- The chassis status is FRESH (R156). -/
def State.fresh (s : State) : Bool := s.veh.freshT.isSome

/-- The cab is ONLINE (R157). -/
def State.cabOnline (s : State) : Bool := s.cab.presenceT.isSome

/-- The vehicle condition (R60). -/
def vehicleOk (s : State) : Bool :=
  s.fresh && (match s.veh.status with
    | some v => v.brake && v.speed == 0
    | none => false)

/-- The road speed Drive-Off reads: that of the latest frame, 0 before the first (R62). -/
def roadSpeed (s : State) : Nat :=
  match s.veh.status with
  | some v => v.speed
  | none => 0

/-- The engine is running (R165). -/
def engineRunning (s : State) : Bool :=
  s.fresh && (match s.veh.status with
    | some v => v.engine
    | none => false)

/-- The ignition is on (R167). -/
def ignitionOn (s : State) : Bool :=
  s.lines.ignition || (s.fresh && (match s.veh.status with
    | some v => v.ignition
    | none => false))

/-- At least one zone is OPEN. -/
def anyOpen (s : State) : Bool := allZones.any fun z => s.zt.position[z] == .opened

/-- The RUN condition (R167). -/
def runCondition (s : State) : Bool := ignitionOn s || !(allSlotsFree s) || anyOpen s

/-- The part is PARKED. -/
def State.parked (s : State) : Bool := s.sup.power == .parked

/-- The run-on time in force (R91). -/
def runOnInForce (s : State) : Nat := if s.sup.supply = .normal then s.cfg.runOn else 0

/-- The output inhibit (R134). -/
def State.inhibit (s : State) : Bool := s.loop.state != .ready

/-- The pump contactor as driven: it follows the pump state (R84) under the output inhibit (R134). -/
def State.contactor (s : State) : Bool :=
  !s.inhibit && (s.arb.pump == .starting || s.arb.pump == .ready || s.arb.pump == .flowing)

/-- The level at the output of an axis's valve drive, under the output inhibit (R134). -/
def State.valveOutput (s : State) (a : AxisId) : Nat := if s.inhibit then 0 else s.se.drives[a].level

/-- The direction valve of an axis at the output, under the output inhibit (R134). -/
def State.directionOutput (s : State) (a : AxisId) : Valve :=
  if s.inhibit then .neutral else s.se.drives[a].valve

/-! ## Zones -/

/-- The zone of an axis by the record in force (R50). -/
def State.axisZone (s : State) (a : AxisId) : Option ZoneId := (s.axisCfg a).zone

/-- The axes of a zone: present, and naming the zone (R50). -/
def axisInZone (s : State) (z : ZoneId) (a : AxisId) : Bool :=
  (s.axisCfg a).present && s.axisZone a == some z

/-- An axis rests at Home with its latch made (R51). -/
def axisHome (s : State) (a : AxisId) : Bool :=
  (match s.axisPos a with
   | some p => near p (s.axisCfg a).home (s.axisCfg a).tb
   | none => false)
  && (!(s.axisCfg a).latch || s.latchMade a)

/-- The Position State a zone's inputs give (R51). -/
def positionNow (s : State) (z : ZoneId) : PosState :=
  if allAxes.all fun a => !(axisInZone s z a) || axisHome s a then .home else .opened

/-- How many stations hold a block on a zone (R53). -/
def blockerCount (set : Vector Bool 7) : Nat := (allStations.filter fun st => set[st]).length

/-- A zone is BLOCKED or RELEASING (R53). -/
def zoneClosed (s : State) (z : ZoneId) : Bool := s.zt.blocks[z].state != .unblocked

/-- The grant holder's stroke is in a zone (R117). -/
def hasStroke (s : State) (z : ZoneId) : Bool :=
  match s.arb.holder with
  | none => false
  | some i =>
    ((s.slot i).state == .active || (s.slot i).state == .stopping)
      && (match (s.slot i).curAxis with
          | some a => s.axisZone a == some z
          | none => false)

/-! ## Enables and levels -/

/-- The enable of a block's confirm station is held (R67). -/
def confirmHeld (s : State) (b : Block) : Bool :=
  match b.confirm with
  | some c => s.crew[c].enable
  | none => false

/-! ## The status summary (R143) -/

/-- The permit's time remaining in whole seconds, rounded up and at least 1 while ON (R185). -/
def permitSeconds (s : State) : Option Nat := s.zt.permitT.map fun ms => max 1 (ceilDiv ms 1000)

/-- Compose the status summary (R143). In CONFIG_FAULT every axis reports UNSYNCED. -/
def summaryOf (s : State) : Summary where
  loop := s.loop.state
  faults := s.faults != 0#32
  configFault := s.store.fault
  supply := s.sup.supply
  power := s.sup.power
  holder := s.arb.holder
  hold := s.arb.hold
  pump := s.arb.pump
  driveOff := s.zt.driveOff
  permit := permitSeconds s
  zones := allZones.map fun z =>
    { position := s.zt.position[z], block := s.zt.blocks[z].state,
      blockers := blockerCount s.zt.blocks[z].set, warn := s.bu.warns[z].state }
  axes := allAxes.map fun a =>
    if s.store.fault then some .unsynced
    else if (s.axisCfg a).present then some s.sensors[a].state else none
  lamps := allBeacons.map fun b => s.bu.beacons[b].lamp
  slots := allSlots.map fun i => (s.slot i).state

end Sys2Proof.Machine
end

