-- ==== Sys2Proof/Machine/Notices.lean ====
section
/-! DEFINITION. Placing notices (R151, R161), the CAN transmitter (R161, R162) and the Polls (R146,
R152). -/

namespace Sys2Proof.Machine

/-! ## Fault flags -/

/-- A block reports a fault: its flag is set (R138). -/
def report (f : Flag) (s : State) : State := { s with faults := raiseFlag f s.faults }

/-! ## Notice queues -/

/-- The run being sent stops after its current frame when the notice it carries is dropped (R161). -/
def abandonNotice (number : Byte) (run : Option TxRun) : Option TxRun :=
  run.map fun r => match r.content with
    | .notice _ => if r.number = number then { r with abandoned := true } else r
    | .partStatus _ _ _ => r

/-- Place a notice for the cab (R161). -/
def placeCab (n : Notice) (s : State) : State :=
  if !s.cabOnline then s
  else
    let grown (q : List (Byte × Notice)) : CabPort :=
      { s.cab with queue := q ++ [(s.cab.next, n)], next := s.cab.next + 1 }
    match s.cab.queue with
    | [] => { s with cab := grown [] }
    | oldest :: rest =>
      if s.cab.queue.length < cabQueueMax then { s with cab := grown s.cab.queue }
      else
        report (.noticesLost 0)
          { s with cab := grown rest, tx := { s.tx with run := abandonNotice oldest.1 s.tx.run } }

/-- Replace the live record of a crew station. -/
def modCrew (c : CrewId) (f : Crew → Crew) (s : State) : State :=
  { s with crew := upd s.crew c f }

/-- Place a notice for a crew station (R151). -/
def placeCrew (c : CrewId) (n : Notice) (s : State) : State :=
  if s.crew[c].link != .online then s
  else
    let grown (q : List (Byte × Notice)) (x : Crew) : Crew :=
      { x with queue := q ++ [(x.nextNum, n)], nextNum := x.nextNum + 1 }
    if s.crew[c].queue.length < crewQueueMax then modCrew c (fun x => grown x.queue x) s
    else report (.noticesLost (stationOf c)) (modCrew c (fun x => grown x.queue.tail x) s)

/-- Place a notice in the queue of its addressee (R47). -/
def place (st : StationId) (n : Notice) (s : State) : State :=
  match crewOf st with
  | none => placeCab n s
  | some c => placeCrew c n s

/-- Place a notice in every station's queue (R80, R84, R135). -/
def placeAll (n : Notice) (s : State) : State := allStations.foldl (fun s st => place st n s) s

/-- Place the answer to a request (R41, R180). -/
def answer (dest : StationId) (kind : Byte) (code : Code) (r : Result) (s : State) : State :=
  place dest (.answer kind code r) s

/-! ## The transmitter -/

/-- Begin a Part Status run; its content is composed now (R162). The count rises as the run begins (DESIGN
CHOICE, log 44). -/
def beginPartStatus (s : State) : State :=
  { s with tx :=
      { s.tx with
        run := some { content := .partStatus (summaryOf s) s.zt.driveOff s.faults,
                      number := s.tx.count, base := s.cfg.canBase, index := 0, abandoned := false }
        due := false
        count := s.tx.count + 1 } }

/-- Begin the run of a notice of the cab queue (R161). -/
def beginNotice (n : Byte × Notice) (s : State) : State :=
  { s with tx :=
      { s.tx with
        run := some { content := .notice n.2, number := n.1, base := s.cfg.canBase, index := 0,
                      abandoned := false } } }

/-- The transmitter, when free, sends a due Part Status first and then the notice at the head of the
cab queue (R161, R162). In PARKED no Part Status is sent. -/
def sendNext (s : State) : State :=
  match s.tx.run with
  | some _ => s
  | none =>
    if s.tx.due && !s.parked then beginPartStatus s
    else match s.cab.queue with
      | [] => s
      | n :: _ => beginNotice n s

/-! ## Polls -/

/-- Send the Poll to a station, built now (R144, R146, R152). -/
def sendPoll (c : CrewId) (s : State) : State :=
  { s with poll :=
      { current := some { station := c, summary := summaryOf s, lastTaken := s.crew[c].lastTaken,
                          notice := s.crew[c].queue.head?, window := none }
        last := some c } }

/-- The stations of a round: those that are not ABSENT (R146). -/
def pollable (s : State) : List CrewId := allCrew.filter fun c => s.crew[c].link != .absent

/-- The station after the one polled last, or the lowest of a new round (R146). -/
def nextStation (s : State) : Option CrewId :=
  match s.poll.last with
  | some l => ((pollable s).find? fun c => l < c).or (pollable s).head?
  | none => (pollable s).head?

/-- Send the next Poll of the round; in PARKED, or with no station to poll, none is sent (R146,
R153). With no station left the round has ended, and the next one begins with the lowest station. -/
def nextPoll (s : State) : State :=
  if s.parked then { s with poll := { s.poll with current := none } }
  else match nextStation s with
    | none => { s with poll := { current := none, last := none } }
    | some c => sendPoll c s

/-- Begin polling where no Poll is in progress (R146, R153). -/
def ensurePolling (s : State) : State :=
  match s.poll.current with
  | some _ => s
  | none => nextPoll s

end Sys2Proof.Machine
end

