-- ==== Sys2Proof/Machine/Permits.lean ====
section
/-! DEFINITION. The judgements of chapters 3 and 4 that change nothing: the masks, the Conflict
Table, the zone permit, eligibility with its wait reasons, and intent. -/

namespace Sys2Proof.Machine

/-! ## The masks (checks 1 to 3 of R75) -/

/-- The hold level masks a slot (R79). -/
def holdMasks (s : State) (x : Slot) : Bool :=
  match s.arb.hold with
  | .none => false
  | .partly => x.block.cls != .recovery && levelOf s.cfg x.owner == 0
  | .full => true

/-- The first mask that a slot fails (R75). -/
def maskReason (s : State) (x : Slot) : Option WaitReason :=
  if holdMasks s x then some .hold
  else if s.sup.supply = .exhausted ∧ x.block.cls ≠ .recovery then some .supply
  else if s.arb.pump = .fault then some .pump
  else none

/-! ## The zone permit (R68) -/

/-- A Conflict Table entry forbids a motion of an axis in a direction (R58, R59). -/
def entryForbids (s : State) (a : AxisId) (d : Dir) (e : ConflictEntry) : Bool :=
  match e.guarded, e.blocked with
  | some g, some b =>
    (s.axisCfg g).present && (s.axisCfg b).present && b == a
      && (match e.dir with
          | .both => true
          | .extend => d == .extend
          | .retract => d == .retract)
      && (match s.axisPos g with
          | some p => within e.lo e.hi p
          | none => true)
  | _, _ => false

/-- The CONFLICT term fails (R59). -/
def conflictFails (s : State) (a : AxisId) (p t : Nat) : Bool :=
  s.cfg.conflicts.any (entryForbids s a (dirOf p t))

/-- The TRAFFIC term fails (R64). -/
def trafficFails (s : State) (a : AxisId) (p t : Nat) : Bool :=
  (match s.axisZone a with
   | some z => s.cfg.zones[z].trafficSide
   | none => false)
  && !(towardHome p t (s.axisCfg a).home (s.axisCfg a).tb) && s.zt.permitT.isNone

/-- The BLOCKED term fails (R53). -/
def blockedFails (s : State) (a : AxisId) : Bool :=
  match s.axisZone a with
  | some z => zoneClosed s z
  | none => false

/-- The first term of the zone permit that fails for a step of a block on an axis (R68). A step whose
target lies within Tb makes no motion and passes CONFLICT and TRAFFIC (R52). -/
def permitReason (s : State) (b : Block) (st : Step) (a : AxisId) : Option WaitReason :=
  if !vehicleOk s then some .vehicle
  else match s.axisPos a with
    | none => some .sensor
    | some p =>
      let still := near st.target p (s.axisCfg a).tb
      if blockedFails s a then some .blocked
      else if !still && conflictFails s a p st.target then some .conflict
      else if !still && trafficFails s a p st.target then some .traffic
      else if st.holdToRun && !(confirmHeld s b) then some .enable
      else none

/-- Checks 1 to 9 for a slot's step on an axis: the masks, then the zone permit (R31, R75). -/
def motionReason (s : State) (x : Slot) (st : Step) (a : AxisId) : Option WaitReason :=
  (maskReason s x).or (permitReason s x.block st a)

/-- The reason a CHECK fails (R31); a step without an axis cannot be judged VALID. -/
def checkReason (s : State) (x : Slot) (st : Step) : Option WaitReason :=
  match st.axisId with
  | some a => motionReason s x st a
  | none => some .sensor

/-! ## Eligibility (R75) -/

/-- Checks 10 and 11 (R75). -/
def warnReason (s : State) (a : AxisId) : Option WaitReason :=
  match s.axisZone a with
  | none => some .warning
  | some z =>
    if s.bu.warns[z].runOut then some .beacon
    else if s.bu.warns[z].state = .warned then none
    else some .warning

/-- The first of checks 1 to 11 that a slot's current step fails (R75). -/
def blockReason (s : State) (x : Slot) : Option WaitReason :=
  match x.curStep, x.curAxis with
  | some st, some a => (motionReason s x st a).or (warnReason s a)
  | _, _ => some .warning

/-- A QUEUED slot is eligible (R75). -/
def eligible (s : State) (i : SlotId) : Bool :=
  (s.slot i).state == .queued && (blockReason s (s.slot i)).isNone

/-- The wait reason of a QUEUED slot (R75): an eligible slot waits GRANT_BUSY while another holds the
grant. -/
def waitReason (s : State) (i : SlotId) : Option WaitReason :=
  (blockReason s (s.slot i)).or (if s.arb.holder.isSome then some .grantBusy else none)

/-- The eligible slot of a Class that stands earliest in the queue. -/
def firstOfClass (s : State) (c : SeqClass) : Option SlotId :=
  s.sm.queue.find? fun i => (s.slot i).block.cls == c && eligible s i

/-- The slot the free grant goes to (R76). -/
def grantChoice (s : State) : Option SlotId :=
  match s.arb.holder with
  | some _ => none
  | none => ((firstOfClass s .recovery).or (firstOfClass s .priority)).or (firstOfClass s .routine)

/-! ## Intent (R70) -/

/-- A slot gives a zone intent (R70). -/
def givesIntent (s : State) (z : ZoneId) (x : Slot) : Bool :=
  x.state == .queued && (match x.curStep, x.curAxis with
    | some st, some a =>
      st.action == .move && s.axisZone a == some z && (motionReason s x st a).isNone
    | _, _ => false)

/-- A zone has intent (R70). -/
def intentNow (s : State) (z : ZoneId) : Bool :=
  allSlots.any fun i => givesIntent s z (s.slot i)

end Sys2Proof.Machine
end

