-- ==== Sys2Proof/Machine/Profile.lean ====
section
/-! DEFINITION. The arithmetic of strokes (chapter 5): ceilings, windows, the drive level, the time
limit, the signed distance to go and the ramp of a controlled stop. -/

namespace Sys2Proof.Machine

/-- The class ceiling of a step (R4, R96). -/
def classCeiling (x : AxisCfg) : SpeedClass → Nat
  | .creep => x.creep
  | .slow => x.slow
  | .normal => x.normal

/-- The ceiling in force at a stroke start (R99). -/
def ceilingAt (supply : SupplyState) (x : AxisCfg) (c : SpeedClass) : Nat :=
  if supply = .normal then classCeiling x c else x.creep

/-- The effective windows from the nominal windows and the travel (R100). -/
def effectiveWindows (nomStart nomStop dist : Nat) : Nat × Nat :=
  if nomStart + nomStop ≤ dist then (nomStart, nomStop)
  else (dist * nomStart / (nomStart + nomStop), dist - dist * nomStart / (nomStart + nomStop))

/-- The windows of a stroke by its taken-over mark and join state (R100). -/
def windowsFor (x : AxisCfg) (takenOver : Bool) (j : JoinState) (dist : Nat) : Nat × Nat :=
  effectiveWindows (if takenOver then 0 else x.ws) (if j = .pending then 0 else x.we) dist

/-- The expected time E in ms (R102). -/
def expectedTime (x : AxisCfg) (vc ws we dist : Nat) : Nat :=
  ceilDiv (1000000 * (dist - ws - we)) (x.rate * vc)
    + ceilDiv (2000000 * (ws + we)) (x.rate * (x.vmin + vc))

/-- The time limit L in ms (R102). -/
def timeLimit (margin grace expected : Nat) : Nat :=
  clampTo 300 60000 (expected * margin / 100 + grace)

/-- The distance remaining r, at least 0 (R101). -/
def remaining (d : Dir) (t p : Nat) : Nat :=
  match d with
  | .extend => t - p
  | .retract => p - t

/-- The drive level in DRIVING (R101). -/
def driveLevel (x : AxisCfg) (k : Stroke) (p : Nat) : Nat :=
  let run := min (gapOf p k.s) k.dist
  let r := remaining k.dir k.t p
  let up := if 0 < k.ws ∧ run < k.ws then x.vmin + (k.vc - x.vmin) * run / k.ws else k.vc
  let dn := if 0 < k.we ∧ r < k.we then x.vmin + (k.vc - x.vmin) * r / k.we else k.vc
  min up dn

/-- The signed distance still to go (R105). -/
def toGo (d : Dir) (t p : Nat) : Int :=
  match d with
  | .extend => (t : Int) - p
  | .retract => (p : Int) - t

/-- The OVER test (R105). -/
def overTest (x : AxisCfg) (k : Stroke) (p : Nat) : Bool :=
  toGo k.dir k.t p < -(x.tb : Int) || p + x.tb < x.elo || x.ehi + x.tb < p

/-- The arrival test (R105). -/
def arrivalTest (x : AxisCfg) (k : Stroke) (p : Nat) : Bool :=
  -(x.tb : Int) ≤ toGo k.dir k.t p && toGo k.dir k.t p ≤ (x.tb : Int)

/-- The join test (R111). -/
def joinTest (d : Dir) (t t2 tb : Nat) : Bool :=
  match d with
  | .extend => t + tb < t2
  | .retract => t2 + tb < t

/-- The level of a controlled stop with `left` ms of its ramp left (R114), limited by the ceiling in
force (R103). -/
def rampLevelAt (ts left start ceiling : Nat) : Nat := min (start * left / ts) ceiling

/-- The setting of a direction valve for a direction. -/
def valveFor : Dir → Valve
  | .extend => .extend
  | .retract => .retract

end Sys2Proof.Machine
end

