-- ==== Sys2Proof/Machine/Ops.lean ====
section
/-! DEFINITION. The Sequence Manager's operations (chapter 2) and the judgement of the power state
(R167): how a slot is freed, how the queue is entered and left, how a step becomes current, starts
and completes, and how a sequence ends. -/

namespace Sys2Proof.Machine

/-! ## Single records -/

/-- Replace the record of a slot. -/
def modSlot (i : SlotId) (f : Slot → Slot) (s : State) : State :=
  { s with sm := { s.sm with slots := upd s.sm.slots i f } }

/-- Replace the Request Queue. -/
def setQueue (q : List SlotId) (s : State) : State := { s with sm := { s.sm with queue := q } }

/-! ## The power state (R167) -/

/-- Judge the power state outside PARKED (R167). Called at each change of one of its inputs. -/
def judgePower (s : State) : State :=
  match s.sup.power with
  | .parked => s
  | .run =>
    if runCondition s then s
    else { s with sup := { s.sup with power := .standby, standbyT := some standbyMs } }
  | .standby =>
    if runCondition s then { s with sup := { s.sup with power := .run, standbyT := none } } else s

/-- Derive every Position State anew (R51). A change is handed to the judgement of the power state. -/
def derivePositions (s : State) : State :=
  let p : Vector PosState 5 := #v[positionNow s 0, positionNow s 1, positionNow s 2, positionNow s 3,
    positionNow s 4]
  if p = s.zt.position then s else judgePower { s with zt := { s.zt with position := p } }

/-! ## The Request Queue (R23 to R25) -/

/-- A slot leaves the Request Queue (R25). -/
def leaveQueue (i : SlotId) (s : State) : State := setQueue (s.sm.queue.filter (· != i)) s

/-- Insert a slot before the first entry of its Class, or at the tail when there is none (R24). -/
def insertFront (s : State) (i : SlotId) : List SlotId → List SlotId
  | [] => [i]
  | j :: rest =>
    if (s.slot j).block.cls = (s.slot i).block.cls then i :: j :: rest
    else j :: insertFront s i rest

/-- A slot enters QUEUED and the queue: at the front of its Class, or at the tail (R24, R29). -/
def enqueue (front : Bool) (i : SlotId) (s : State) : State :=
  let q := if front then insertFront s i s.sm.queue else s.sm.queue ++ [i]
  modSlot i (fun x => { x with state := .queued, pauseCause := none }) (setQueue q s)

/-! ## The grant is given back (R78) -/

/-- The grant leaves its holder; the completion record takes the axis of the tenure and that axis's
last VALID position (R38, R78). -/
def releaseGrant (i : SlotId) (s : State) : State :=
  if s.arb.holder = some i then
    modSlot i
      (fun x => { x with run := { x.run with
        lastMove := (x.curAxis.map fun a => (a, s.sensors[a].last)).or x.run.lastMove } })
      { s with arb := { s.arb with holder := none } }
  else s

/-! ## Notices of the Sequence Manager (R47) -/

/-- A PROGRESS notice about a slot to a station. -/
def progress (dest : StationId) (i : SlotId) (p : Progress) (s : State) : State :=
  place dest (.progress i (s.slot i).block.tag (s.slot i).step p) s

/-- The "paused" notice to the owner and to the confirm station, once where they are one (R27). -/
def pausedNotice (i : SlotId) (c : PauseCause) (s : State) : State :=
  let x := s.slot i
  let s := progress x.owner i (.paused c) s
  match x.block.confirm with
  | none => s
  | some k => if stationOf k = x.owner then s else progress (stationOf k) i (.paused c) s

/-- A slot enters PAUSED with a cause, and the notice is sent (R27). -/
def pauseSlot (i : SlotId) (c : PauseCause) (s : State) : State :=
  pausedNotice i c
    (modSlot i (fun x => { x with state := .paused, pauseCause := some c, ownerLost := false }) s)

/-! ## The end of a sequence (R37 to R39) -/

/-- A slot becomes FREE; the power state is judged (R167). -/
def freeSlot (i : SlotId) (s : State) : State := judgePower (modSlot i (fun _ => Slot.empty) s)

/-- The completion record of a slot (R38). -/
def completionOf (i : SlotId) (cause : EndCause) (x : Slot) : Completion :=
  { slot := i, owner := x.owner, tag := x.block.tag, cause := cause, endStep := x.step,
    passCount := x.passCount, run := x.run }

/-- Dispose of a slot by its Repeat Mode (R39). -/
def dispose (i : SlotId) (s : State) : State :=
  match (s.slot i).block.rep with
  | .once => freeSlot i s
  | .held => modSlot i (fun x => { x with state := .completed, flag := true }) s
  | .cycle => modSlot i (fun x => { x with state := .completed, flag := true }) s

/-- A sequence ends (R37), in the order of that rule: cause and step index; queue, dwell timer and
grant; completion record and COMPLETION notice; marks; disposal. The stroke, if any, is already at
rest (R33). -/
def seqEnd (i : SlotId) (cause : EndCause) (wait : Option WaitReason) (s : State) : State :=
  let s := modSlot i (fun x => { x with lastEnd := some cause, endStep := some x.step }) s
  let s := modSlot i (fun x => { x with dwellT := none }) (leaveQueue i s)
  let s := releaseGrant i s
  let s := modSlot i (fun x => { x with run := { x.run with wait := wait } }) s
  let s := place (s.slot i).owner (.completion (completionOf i cause (s.slot i))) s
  let s := modSlot i
    (fun x => { x with ownerLost := false, interrupted := false, pauseCause := none }) s
  dispose i s

/-! ## Steps (R26 to R32, R40) -/

/-- A CYCLE sequence reaches a pass end (R40). `next` makes a step current. -/
def passEnd (next : SlotId → Bool → State → State) (i : SlotId) (s : State) : State :=
  let s := modSlot i (fun x => { x with passCount := satInc 65535 x.passCount }) s
  if (s.slot i).flag then seqEnd i .passUncleared none s
  else
    let s := modSlot i (fun x => { x with flag := true }) s
    let s := progress (s.slot i).owner i (.passEnded (s.slot i).passCount) s
    next i false (modSlot i (fun x => { x with step := 1 }) s)

/-- A step has completed normally and what it held is given back (R32). -/
def completeStep (next : SlotId → Bool → State → State) (i : SlotId) (s : State) : State :=
  if (s.slot i).stepHas (·.chain) then
    next i true (modSlot i (fun x => { x with step := x.step + 1 }) s)
  else if (s.slot i).block.rep = .cycle then passEnd next i s
  else
    seqEnd i .normal none
      (modSlot i (fun x => { x with passCount := satInc 65535 x.passCount }) s)

/-- A slot is left PAUSED where no step can be started: it has no step with its index, or the bound of
one event is used up. Neither is reached (R26, R40; log 16). -/
def strand (i : SlotId) (s : State) : State :=
  modSlot i (fun x => { x with state := .paused, pauseCause := some .step }) s

/-- The current step is started (R27 case 3, R29 to R31). `chained`: the start follows directly from
the normal completion of the step before it (R24). -/
def startStep (next : SlotId → Bool → State → State) (i : SlotId) (chained : Bool) (s : State) :
    State :=
  match (s.slot i).curStep with
  | none => strand i s
  | some st =>
    let s := if st.notify then progress (s.slot i).owner i .stepStarted s else s
    match st.action with
    | .move => enqueue (chained || (s.slot i).interrupted) i s
    | .dwell =>
      modSlot i
        (fun x => { x with state := .dwelling, pauseCause := none, dwellT := some (st.dwell * 100) }) s
    | .check =>
      match checkReason s (s.slot i) st with
      | none => completeStep next i s
      | some r => seqEnd i .checkFailed (some r) s

/-- A step becomes current (R27). The first argument bounds the steps that complete in one event. -/
def becomeCurrent : Nat → SlotId → Bool → State → State
  | 0, i, _, s => strand i s
  | n + 1, i, chained, s =>
    let s := modSlot i (fun x => { x with interrupted := false }) s
    if (s.slot i).ownerLost then pauseSlot i .ownerLost s
    else if (s.slot i).stepHas (·.pause) then pauseSlot i .step s
    else startStep (becomeCurrent n) i chained s

/-- A step becomes current, with the bound of one event. -/
def makeCurrent (i : SlotId) (chained : Bool) (s : State) : State :=
  becomeCurrent chainBound i chained s

/-- A step has completed normally. -/
def stepDone (i : SlotId) (s : State) : State := completeStep (becomeCurrent chainBound) i s

/-- The current step of a PAUSED slot is started by Resume (R28). -/
def resumeStep (i : SlotId) (s : State) : State :=
  startStep (becomeCurrent chainBound) i false (modSlot i (fun x => { x with pauseCause := none }) s)

end Sys2Proof.Machine
end

