-- ==== Sys2Proof/Machine/Strokes.lean ====
section
/-! DEFINITION. The pump (section 4.3) and the Stroke Engine's operations (sections 5.3 to 5.8): flow,
the start of a stroke, arrival, joins, ends and stops. -/

namespace Sys2Proof.Machine

/-! ## Single records -/

/-- Replace the drive outputs of an axis. -/
def modDrive (a : AxisId) (f : Drive → Drive) (s : State) : State :=
  { s with se := { s.se with drives := upd s.se.drives a f } }

/-- Replace the live stroke record. -/
def setStroke (k : Option Stroke) (s : State) : State := { s with se := { s.se with stroke := k } }

/-- Set the join-dropped mark of a slot's completion record (R38, R112). -/
def markJoinDropped (i : SlotId) (s : State) : State :=
  modSlot i (fun x => { x with run := { x.run with joinDropped := true } }) s

/-! ## Pump and flow (R85 to R87) -/

/-- The run-on timer starts with the run-on time in force; a time of 0 expires at once (R87, R91). -/
def startRunOn (s : State) : State :=
  if runOnInForce s = 0 then { s with arb := { s.arb with pump := .off, runOnT := none } }
  else { s with arb := { s.arb with runOnT := some (runOnInForce s) } }

/-- Flow begins (R87). -/
def flowBegins (s : State) : State :=
  if s.arb.pump = .ready then { s with arb := { s.arb with pump := .flowing, runOnT := none } }
  else s

/-- Flow ends (R87). -/
def flowEnds (s : State) : State :=
  if s.arb.pump = .flowing then
    startRunOn { s with arb := { s.arb with pump := .ready, lossT := none } }
  else s

/-- The pump enters FAULT: ALERT to every station, and the PUMP flag (R84). -/
def pumpFault (cause : PumpCause) (s : State) : State :=
  report .pump (placeAll (.alert (.pumpFault cause))
    { s with arb :=
        { s.arb with pump := .fault, startT := none, runOnT := none, lossT := none } })

/-! ## The end of a stroke (R109, R113) -/

/-- How a stroke can end (R109, R113). -/
inductive StrokeEnd where
  | arrived
  | short
  | timeout
  | stalled
  | over
  | latch
  | sensor
  | pump
  | zoneBlocked
  deriving DecidableEq, Repr

/-- The end cause of a sequence that a stroke end brings (R33). -/
def StrokeEnd.cause : StrokeEnd → EndCause
  | .arrived => .normal
  | .short => .short
  | .timeout => .timeout
  | .stalled => .stalled
  | .over => .over
  | .latch => .latch
  | .sensor => .sensor
  | .pump => .pump
  | .zoneBlocked => .zoneBlocked

/-- A shortfall the A flag covers (R6). -/
def StrokeEnd.shortfall : StrokeEnd → Bool
  | .short => true
  | .timeout => true
  | .stalled => true
  | _ => false

/-- The axis comes to rest: level 0, valve neutral, solenoid de-energised; flow ends; the stroke
record is dropped with its timers (R109, R113, R114). -/
def dropStroke (s : State) : State :=
  match s.se.stroke with
  | none => s
  | some k => setStroke none (flowEnds (modDrive k.axis (fun _ => Drive.rest) s))

/-- A stroke end is reported to the Sequence Manager (R109, R32, R33). -/
def strokeEnds (i : SlotId) (e : StrokeEnd) (s : State) : State :=
  let s := dropStroke s
  if e = .arrived then stepDone i (releaseGrant i s)
  else if e.shortfall && (s.slot i).stepHas (·.acceptShort) then
    stepDone i (modSlot i
      (fun x => { x with run := { x.run with acceptShort := satInc 255 x.run.acceptShort } })
      (releaseGrant i s))
  else seqEnd i e.cause none s

/-- A door closing onto Home must read made: the axis has a latch, `t` lies within Tb of Home and the
switch reads released (R98, R108). -/
def latchMissing (s : State) (a : AxisId) (t : Nat) : Bool :=
  (s.axisCfg a).latch && near t (s.axisCfg a).home (s.axisCfg a).tb && !(s.latchMade a)

/-- The step completes at zero travel (R98): its join, if any, is dropped. -/
def zeroTravel (k : Stroke) (t : Nat) (s : State) : State :=
  let s := if (s.slot k.slot).stepHas (·.join) then markJoinDropped k.slot s else s
  strokeEnds k.slot (if latchMissing s k.axis t then .latch else .arrived) s

/-! ## The start of a stroke (R97 to R102, R111) -/

/-- A stroke record at the grant, in PUMP_WAIT (R97). -/
def freshStroke (i : SlotId) (step : Nat) (a : AxisId) : Stroke where
  slot := i
  step := step
  axis := a
  phase := .pumpWait
  started := false
  s := 0
  t := 0
  dist := 0
  dir := .extend
  vc := 0
  ws := 0
  we := 0
  takenOver := false
  join := .none
  expected := 0
  limit := 0
  limitT := none
  elapsed := 0
  latchT := none
  settleT := none
  stallT := none
  stallRef := 0
  rampLevel := 0
  rampT := none

/-- The join state at a stroke start (R111, R112). -/
def joinAtStart (x : Slot) (st : Step) (d : Dir) (tb : Nat) : JoinState :=
  if st.join then
    match x.nextStep with
    | some nxt => if joinTest d st.target nxt.target tb then .pending else .dropped
    | none => .dropped
  else .none

/-- The figures of a stroke that starts from `p` (R99, R100, R102, R111). -/
def planStroke (s : State) (k : Stroke) (x : Slot) (st : Step) (takenOver : Bool) (p : Nat) :
    Stroke :=
  let c := s.axisCfg k.axis
  let d := dirOf p st.target
  let dist := gapOf st.target p
  let vc := ceilingAt s.sup.supply c st.speed
  let j := joinAtStart x st d c.tb
  let w := windowsFor c takenOver j dist
  let e := expectedTime c vc w.1 w.2 dist
  { k with
    step := x.step
    started := true
    s := p
    t := st.target
    dist := dist
    dir := d
    vc := vc
    ws := w.1
    we := w.2
    takenOver := takenOver
    join := j
    expected := e
    limit := timeLimit s.cfg.margin s.cfg.grace e }

/-- DRIVING begins: the valve is set, the level computed at `p`, the time-limit timer started (R99,
R110). -/
def beginDriving (k : Stroke) (p : Nat) (s : State) : State :=
  let k := { k with phase := .driving, limitT := some k.limit, elapsed := 0, latchT := none }
  setStroke (some k)
    (modDrive k.axis
      (fun _ => { level := driveLevel (s.axisCfg k.axis) k p, valve := valveFor k.dir,
                  solenoid := false }) s)

/-- LATCH_WAIT begins: the solenoid is energised and the latch timer started (R110). -/
def beginLatchWait (k : Stroke) (s : State) : State :=
  setStroke (some { k with phase := .latchWait, latchT := some latchWaitMs })
    (modDrive k.axis (fun x => { x with solenoid := true }) s)

/-- The stroke must wait for its door's latch (R99). -/
def mustUnlatch (s : State) (k : Stroke) : Bool :=
  let c := s.axisCfg k.axis
  c.latch && near k.s c.home c.tb && !(towardHome k.s k.t c.home c.tb) && s.latchMade k.axis

/-- The pump is ready for a stroke in PUMP_WAIT, and the stroke starts (R99). -/
def strokeStarts (k : Stroke) (s : State) : State :=
  match (s.slot k.slot).curStep with
  | none => s
  | some st =>
    let p := s.lastPos k.axis
    if near st.target p (s.axisCfg k.axis).tb then zeroTravel k st.target s
    else
      let k := planStroke s k (s.slot k.slot) st false p
      let s := if k.join = .dropped then markJoinDropped k.slot s else s
      flowBegins (if mustUnlatch s k then beginLatchWait k s else beginDriving k p s)

/-- The pump is reported ready; only a stroke in PUMP_WAIT starts (R86, R99). -/
def pumpReady (s : State) : State :=
  match s.se.stroke with
  | some k => if k.phase = .pumpWait then strokeStarts k s else s
  | none => s

/-- The Stroke Engine demands flow (R85). -/
def demandFlow (s : State) : State :=
  match s.arb.pump with
  | .off =>
    { s with arb := { s.arb with pump := .starting, startT := some s.cfg.startLimit } }
  | .ready => pumpReady s
  | _ => s

/-! ## Settling and arrival (R105, R108, R111) -/

/-- The judgement at the end of settling (R108). -/
def settleEnd (s : State) (k : Stroke) : StrokeEnd :=
  let c := s.axisCfg k.axis
  let rs := toGo k.dir k.t (s.lastPos k.axis)
  if rs < -(c.tb : Int) then .over
  else if latchMissing s k.axis k.t then .latch
  else if (c.tb : Int) < rs then .short
  else .arrived

/-- The stroke enters SETTLING; a Settle time of 0 expires at once (R105, R108). -/
def beginSettling (k : Stroke) (s : State) : State :=
  let t := (s.axisCfg k.axis).settle
  let k := { k with phase := .settling, limitT := none, stallT := none, settleT := some t }
  let s := setStroke (some k)
    (flowEnds (modDrive k.axis (fun x => { x with level := 0, valve := .neutral }) s))
  if t = 0 then strokeEnds k.slot (settleEnd s k) s else s

/-- A taken join: the next step becomes current and its stroke starts from `p`, with the grant and
the flow kept (R27 case 3, R111). A joined stroke drives at once (log 11), and a stall
timer of the ended stroke is discarded (DESIGN CHOICE, log 40). -/
def takeJoin (k : Stroke) (p : Nat) (s : State) : State :=
  let s := modSlot k.slot (fun x => { x with step := x.step + 1, interrupted := false }) s
  match (s.slot k.slot).curStep with
  | none => s
  | some st =>
    let s := if st.notify then progress (s.slot k.slot).owner k.slot .stepStarted s else s
    let k := planStroke s k (s.slot k.slot) st true p
    let s := if k.join = .dropped then markJoinDropped k.slot s else s
    beginDriving { k with stallT := none } p s

/-- Arrival is detected at `p` in DRIVING: a pending join is taken, and the arrival test is applied to
the joined stroke in the same event; otherwise the stroke settles (R105, R111). -/
def arrive : Nat → Nat → Stroke → State → State
  | 0, _, _, s => s
  | n + 1, p, k, s =>
    if k.join = .pending then
      let s := takeJoin k p s
      match s.se.stroke with
      | some k2 => if arrivalTest (s.axisCfg k2.axis) k2 p then arrive n p k2 s else s
      | none => s
    else beginSettling k s

/-! ## Controlled stops (R34, R114) -/

/-- What a controlled stop is to lead to (R34). -/
inductive StopOutcome where
  | ending (cause : EndCause)
  | interruption
  deriving DecidableEq, Repr

/-- STOPPING ends: the axis rests, the grant is given back, and the outcome is acted on (R34, R114). -/
def stopEnds (k : Stroke) (s : State) : State :=
  let s := releaseGrant k.slot (dropStroke s)
  let x := s.slot k.slot
  if x.interrupted then
    if x.ownerLost then pauseSlot k.slot .ownerLost s else enqueue true k.slot s
  else seqEnd k.slot (x.lastEnd.getD .cancelled) none s

/-- The outcome of a stop is fixed in the slot (R34). -/
def fixOutcome (o : StopOutcome) (x : Slot) : Slot :=
  match o with
  | .ending c => { x with state := .stopping, lastEnd := some c }
  | .interruption => { x with state := .stopping, interrupted := true }

/-- A controlled stop is asked for the grant holder, if it is ACTIVE (R34, R114). With Ts at 0 the
stop ends at once. -/
def controlledStop (o : StopOutcome) (s : State) : State :=
  match s.arb.holder, s.se.stroke with
  | some i, some k =>
    if (s.slot i).state = .active ∧ k.slot = i then
      let ts := (s.axisCfg k.axis).ts
      let start := if k.phase = .driving then s.se.drives[k.axis].level else 0
      let k := { k with phase := .stopping, limitT := none, latchT := none, settleT := none,
                        stallT := none, rampLevel := start, rampT := some ts }
      let s := setStroke (some k) (modDrive k.axis (fun x => { x with solenoid := false })
        (modSlot i (fixOutcome o) s))
      if ts = 0 then stopEnds k s else s
    else s
  | _, _ => s

/-- The level of a stroke in STOPPING is computed anew (R114). -/
def rampLevelNow (k : Stroke) (s : State) : State :=
  let ceiling := if k.started then k.vc else 0
  let level := rampLevelAt (s.axisCfg k.axis).ts (k.rampT.getD 0) k.rampLevel ceiling
  modDrive k.axis (fun x => { x with level := level }) s

/-! ## A change of the supply during a stroke (R103) -/

/-- The ceiling of the running stroke becomes the CREEP ceiling (R103). -/
def ceilingChange (s : State) : State :=
  match s.se.stroke with
  | none => s
  | some k =>
    let c := s.axisCfg k.axis
    match k.phase with
    | .driving =>
      let p := s.lastPos k.axis
      let dist := gapOf k.t p
      let w := windowsFor c true k.join dist
      let e := expectedTime c c.creep w.1 w.2 dist
      let k := { k with s := p, dist := dist, vc := c.creep, ws := w.1, we := w.2, expected := e,
                        limit := timeLimit s.cfg.margin s.cfg.grace e }
      let k := { k with limitT := some k.limit, elapsed := 0 }
      setStroke (some k) (modDrive k.axis (fun x => { x with level := driveLevel c k p }) s)
    | .latchWait =>
      let e := expectedTime c c.creep k.ws k.we k.dist
      setStroke (some { k with vc := c.creep, expected := e,
                               limit := timeLimit s.cfg.margin s.cfg.grace e }) s
    | .stopping =>
      let k := { k with vc := min k.vc c.creep }
      rampLevelNow k (setStroke (some k) s)
    | .pumpWait => s
    | .settling => s

/-- The supply state changes, and the change is handed on: the run-on in force to the Arbiter (R91),
the clamp to the Stroke Engine (R103). -/
def changeSupply (new : SupplyState) (s : State) : State :=
  if new = s.sup.supply then s
  else
    let old := s.sup.supply
    let s := { s with sup := { s.sup with supply := new } }
    let s :=
      if new ≠ .normal ∧ s.arb.pump = .ready ∧ s.arb.runOnT.isSome then
        { s with arb := { s.arb with pump := .off, runOnT := none } }
      else s
    if old = .normal then ceilingChange s
    else match s.se.stroke with
      | some k => if k.phase = .stopping then rampLevelNow k s else s
      | none => s

end Sys2Proof.Machine
end

