-- ==== Sys2Proof/Machine/Settle.lean ====
section
/-! DEFINITION. The reactions between the blocks that several commands share: the grant, intent and
the warning states, Drive-Off, the beacons and the sounder, the closing of a command, the wake, and
the reactions to a lost owner, a released enable, a zone block and the loop. -/

namespace Sys2Proof.Machine

/-! ## The grant (R76) -/

/-- The Stroke Engine takes up the step of a slot that has just been granted (R98). -/
def takeUp (i : SlotId) (s : State) : State :=
  match (s.slot i).curStep, (s.slot i).curAxis with
  | some st, some a =>
    let k := freshStroke i (s.slot i).step a
    let s := setStroke (some k) s
    if near st.target (s.lastPos a) (s.axisCfg a).tb then zeroTravel k st.target s else demandFlow s
  | _, _ => s

/-- The grant is given to a slot, in the order of R76. -/
def grant (i : SlotId) (s : State) : State :=
  let s := modSlot i (fun x => { x with state := .active, interrupted := false }) (leaveQueue i s)
  takeUp i { s with arb := { s.arb with holder := some i } }

/-! ## Intent and the warning states (R71, R117 to R122) -/

/-- Replace the warning record of a zone. -/
def modWarn (z : ZoneId) (f : Warn → Warn) (s : State) : State :=
  { s with bu := { s.bu with warns := upd s.bu.warns z f } }

/-- A beacon mapped to the zone has its lamp OK (R119). -/
def someLampOk (s : State) (z : ZoneId) : Bool :=
  allBeacons.any fun b => maskHas s.cfg.beacons[b].mask z && s.bu.beacons[b].lamp == .ok

/-- The pre-warn time of a zone has passed (R119). -/
def preWarnPassed (z : ZoneId) (s : State) : State :=
  if someLampOk s z then
    modWarn z (fun _ => { state := .warned, preWarnT := none, runOut := false }) s
  else modWarn z (fun _ => { state := .warning, preWarnT := none, runOut := true }) s

/-- An intent start for a zone (R118). -/
def intentStart (z : ZoneId) (s : State) : State :=
  if s.bu.warns[z].state = .quiet then
    if s.cfg.zones[z].preWarn = 0 then preWarnPassed z s
    else modWarn z
      (fun _ => { state := .warning, preWarnT := some s.cfg.zones[z].preWarn, runOut := false }) s
  else s

/-- A zone without intent and without a stroke returns to QUIET (R122). -/
def quietJudge (z : ZoneId) (s : State) : State :=
  if s.bu.warns[z].state ≠ .quiet ∧ s.zt.intent[z] = false ∧ hasStroke s z = false then
    modWarn z (fun _ => { state := .quiet, preWarnT := none, runOut := false }) s
  else s

/-- Derive the intent of one zone anew and give its signals (R71). -/
def deriveIntent1 (s : State) (z : ZoneId) : State :=
  let new := intentNow s z
  let old := s.zt.intent[z]
  let s := { s with zt := { s.zt with intent := upd s.zt.intent z fun _ => new } }
  quietJudge z (if new && !old then intentStart z s else s)

/-- Derive every zone's intent anew (R71). -/
def deriveIntent (s : State) : State := allZones.foldl deriveIntent1 s

/-- One application of the grant rule (R76): after a grant the rule is applied again by `again`. -/
def grantOnce (again : State → State) (s : State) : State :=
  match grantChoice s with
  | some i => again (grant i s)
  | none => s

/-- Apply the grant rule until it gives no grant (R76), with intent and the warning states derived
before each application. The first argument bounds the grants of one event. -/
def grantLoop : Nat → State → State
  | 0, s => deriveIntent s
  | n + 1, s => grantOnce (grantLoop n) (deriveIntent s)

/-! ## Drive-Off (R62, R63) -/

/-- The body is not secure: a zone is OPEN, or a slot is QUEUED, ACTIVE or STOPPING (R62). -/
def insecure (s : State) : Bool := anyOpen s || allSlots.any fun i => (s.slot i).inMotionSet

/-- Judge the Drive-Off state (R62, R63). On entry the Part Status becomes due at once (R162). Slots that a
leaving of READY takes out of QUEUED, ACTIVE and STOPPING are such a change too, so that Drive-Off can pass
to OFF in the event of a trip, which R135 leaves as it stands (DESIGN CHOICE, log 46). -/
def judgeDriveOff (s : State) : State :=
  if s.zt.driveOff then
    if roadSpeed s = 0 ∨ insecure s = false then { s with zt := { s.zt with driveOff := false } }
    else s
  else if driveOffSpeed ≤ roadSpeed s ∧ insecure s = true then
    controlledStop (.ending .vehicle)
      { s with zt := { s.zt with driveOff := true, permitT := none }
               tx := { s.tx with due := true } }
  else s

/-! ## Demands, beacons and the sounder (R123 to R129) -/

/-- The sensor of an axis of the zone is in FAULT (R123). -/
def zoneSensorFault (s : State) (z : ZoneId) : Bool :=
  allAxes.any fun a => axisInZone s z a && s.sensors[a].state == .fault

/-- The demand of a zone (R123). -/
def zoneDemand (s : State) (z : ZoneId) : Demand :=
  if s.zt.driveOff then .driveOff
  else if zoneSensorFault s z || s.loop.state != .ready then .fault
  else if s.bu.warns[z].state != .quiet || s.zt.blocks[z].state == .releasing then .warning
  else if s.zt.blocks[z].state == .blocked then .blocked
  else if s.zt.position[z] == .opened then .opened
  else .none

/-- The rank of a demand (R123). -/
def Demand.rank : Demand → Nat
  | .driveOff => 1
  | .fault => 2
  | .warning => 3
  | .blocked => 4
  | .opened => 5
  | .none => 6

/-- The more urgent of two demands. -/
def Demand.top (x y : Demand) : Demand := if y.rank < x.rank then y else x

/-- The demand of a beacon (R124). In CONFIG_FAULT every beacon shows FAULT (R129). -/
def beaconDemand (s : State) (b : BeaconId) : Demand :=
  if s.store.fault then .fault
  else allZones.foldl
    (fun d z => if maskHas s.cfg.beacons[b].mask z then d.top (zoneDemand s z) else d) .none

/-- The pattern of a demand (R125); NONE has none. -/
def patternOf (c : Cfg) : Demand → Option Pattern
  | .driveOff => some { period := 200, share := 50 }
  | .fault => some c.patFault
  | .warning => some c.patWarning
  | .blocked => some c.patBlocked
  | .opened => some c.patOpen
  | .none => none

/-- The phase lies within a pattern's on-window (R125, R126). -/
def inWindow (phase : Nat) (p : Pattern) : Bool := phase % p.period < p.period * p.share / 100

/-- A beacon showing a demand is lit at this phase (R126); in PARKED every beacon is dark (R129). -/
def litAt (s : State) (d : Demand) : Bool :=
  !s.parked && (match patternOf s.cfg d with
    | some p => inWindow s.bu.phase p
    | none => false)

/-- The phase stands at the beginning of a period of a demand's pattern. -/
def windowBegins (s : State) (d : Demand) : Bool :=
  match patternOf s.cfg d with
  | some p => s.bu.phase % p.period == 0
  | none => false

/-- A beacon takes a demand's pattern at the phase the timer holds (R126). The lit interval is a full
on-phase only if it begins with its window (R127; log 21). -/
def Beacon.take (s : State) (d : Demand) (x : Beacon) : Beacon :=
  { x with demand := d, lit := litAt s d, fullOn := litAt s d && windowBegins s d }

/-- A beacon's demand is derived anew; an unchanged demand keeps its place in its pattern (R124). -/
def Beacon.show (s : State) (b : BeaconId) (x : Beacon) : Beacon :=
  if beaconDemand s b = x.demand then x else x.take s (beaconDemand s b)

/-- Replace the live record of every beacon by a function of its number and itself. -/
def mapBeacons (f : BeaconId → Beacon → Beacon) (s : State) : State :=
  let v := allBeacons.foldl (fun v b => upd v b (f b)) s.bu.beacons
  { s with bu := { s.bu with beacons := v } }

/-- The condition under which the sounder sounds (R128); it is silent in PARKED and in CONFIG_FAULT
(R129). -/
def sounderCondition (s : State) : Bool :=
  !s.store.fault && !s.parked
    && (s.zt.driveOff
      || (allZones.any fun z => s.zt.blocks[z].state == .releasing)
      || (allZones.any fun z => s.cfg.zones[z].sounderOnMotion && zoneDemand s z == .warning))

/-- The sounder is driven in the first 500 ms of each 1000 ms of the phase (R128). -/
def soundNow (s : State) : State :=
  { s with bu := { s.bu with sounder := sounderCondition s && s.bu.phase % 1000 < 500 } }

/-- Derive every beacon demand and the sounder anew (R123, R124, R128). -/
def showAll (s : State) : State := soundNow (mapBeacons (Beacon.show s) s)

/-- A beacon's output follows its pattern at the phase (R126). A lit interval that begins without a
change of demand is a full on-phase until something cuts it short; one that goes on, or has just ended,
keeps its mark (R127; log 21). -/
def Beacon.edge (s : State) (x : Beacon) : Beacon :=
  let now := litAt s x.demand
  { x with lit := now, fullOn := if now && !x.lit then true else x.fullOn }

/-- A beacon's demand is derived anew and its output follows the pattern in force: a changed demand is
taken up at the phase (R126), an unchanged one keeps its lit interval (R124, R127). -/
def Beacon.follow (s : State) (b : BeaconId) (x : Beacon) : Beacon :=
  if beaconDemand s b = x.demand then x.edge s else x.take s (beaconDemand s b)

/-- Every beacon takes its pattern at the phase the timer holds (R129, R130). -/
def relight (s : State) : State := soundNow (mapBeacons (Beacon.follow s) s)

/-! ## The closing of a command (log 12) -/

/-- What a change is handed on to, at the end of the command that made it: Drive-Off, intent with the
warning states and the grant, the demands, and the transmitter. A command that changes none of their
inputs (a refused request, a question, a timer of one record) does not call it. -/
def settle (s : State) : State :=
  sendNext (showAll (grantLoop grantBound (judgeDriveOff (judgeDriveOff s))))

/-! ## The wake (R169) -/

/-- The watchdog of each VALID sensor starts again (R116). -/
def startWatchdogs (s : State) : State :=
  { s with sensors := s.sensors.map fun x =>
      if x.state = .valid then { x with watchdog := some watchdogMs } else x }

/-- Leave PARKED (R169): RUN or STANDBY, a new round of Polls (R153), a Part Status due at once
(R162), the watchdogs (R116) and the beacons (R129). -/
def wake (s : State) : State :=
  if s.parked then
    let sup : Supply :=
      if runCondition s then { s.sup with power := .run, standbyT := none }
      else { s.sup with power := .standby, standbyT := some standbyMs }
    let s := { s with sup := sup }
    let s := ensurePolling { s with poll := { s.poll with last := none } }
    sendNext (relight (startWatchdogs
      { s with tx := { s.tx with due := true, periodT := some partStatusMs } }))
  else s

/-! ## Requests reach their owner over a link (R150, R158) -/

/-- Hand a request of a sender to its owner; a request the link does not hand on is disregarded (log
5). A frame of the cab is a wake event in PARKED (R155), and its answer is sent when the transmitter
is free (R161). The owner closes what it changes by `settle`. -/
def viaLink (src : Sender) (f : StationId → State → State) (s : State) : State :=
  match src with
  | .cab => if s.cabOnline then sendNext (f 0 (wake s)) else wake s
  | .crew c n =>
    if s.crew[c].link != .online || s.crew[c].lastTaken == n then s
    else f (stationOf c) (modCrew c (fun x => { x with lastTaken := n }) s)

/-! ## A station is lost, an enable is released (R35, R67) -/

/-- The effect of an owner's loss on one slot (R35). -/
def ownerLossOn (st : StationId) (s : State) (i : SlotId) : State :=
  if (s.slot i).owner = st then
    match (s.slot i).state with
    | .queued => pauseSlot i .ownerLost (leaveQueue i s)
    | .active => modSlot i (fun x => { x with ownerLost := true }) s
    | .stopping => modSlot i (fun x => { x with ownerLost := true }) s
    | .dwelling => modSlot i (fun x => { x with ownerLost := true }) s
    | .free => s
    | .paused => s
    | .completed => s
  else s

/-- A station becomes LOST: its slots are treated in increasing number (R35; log 13). -/
def ownerLoss (st : StationId) (s : State) : State := allSlots.foldl (ownerLossOn st) s

/-- The enable of a station passes from held to not held (R67). -/
def enableReleased (c : CrewId) (s : State) : State :=
  match s.arb.holder with
  | none => s
  | some i =>
    if (s.slot i).state = .active ∧ (s.slot i).stepHas (·.holdToRun) = true
        ∧ (s.slot i).block.confirm = some c then
      controlledStop .interruption s
    else s

/-- Set a station's enable; a change to released is acted on (R149, R67). -/
def setEnable (c : CrewId) (held : Bool) (s : State) : State :=
  let before := s.crew[c].enable
  let s := modCrew c (fun x => { x with enable := held }) s
  if before && !held then enableReleased c s else s

/-! ## The vehicle condition is lost (R61) -/

/-- Compare the vehicle condition with what it was before, and stop an ACTIVE holder if it is lost. -/
def judgeVehicle (before : Bool) (s : State) : State :=
  if before && !(vehicleOk s) then controlledStop (.ending .vehicle) s else s

/-! ## A zone enters BLOCKED (R48) -/

/-- A slot is of the kind the flush of a zone ends (R48). -/
def flushes (s : State) (z : ZoneId) (i : SlotId) : Bool :=
  ((s.slot i).state == .active || (s.slot i).state == .queued || (s.slot i).state == .paused)
    && (match (s.slot i).curAxis with
        | some a => s.axisZone a == some z
        | none => false)

/-- The flush of one slot: an ACTIVE slot's stroke stops immediately (R48, R113). -/
def flushOne (z : ZoneId) (s : State) (i : SlotId) : State :=
  if flushes s z i then
    if (s.slot i).state = .active then strokeEnds i .zoneBlocked s
    else seqEnd i .zoneBlocked none s
  else s

/-- The flush of a zone, slots in increasing number (R48; log 13). -/
def flush (z : ZoneId) (s : State) : State := allSlots.foldl (flushOne z) s

/-! ## The loop (R134, R135) -/

/-- The loop state changes: the ALERT goes to every station (R135). -/
def setLoop (new : LoopState) (by_ : Option StationId) (s : State) : State :=
  let old := s.loop.state
  let s := { s with loop := { s.loop with state := new } }
  placeAll (.alert (.loop new old s.loop.closedA s.loop.closedB by_)) s

/-- The Stroke Engine's reaction to the loop leaving READY (R113). -/
def cutStroke (s : State) : State :=
  { s with se := { drives := Vector.replicate 7 Drive.rest, stroke := none } }

/-- The Arbiter's reaction to the loop leaving READY (R90); the grant goes in the ends of R49. -/
def cutPump (s : State) : State :=
  if s.arb.pump = .fault then s
  else { s with arb :=
    { s.arb with pump := .off, startT := none, runOnT := none, lossT := none } }

/-- The end of one slot at the loop leaving READY (R49). -/
def tripOne (s : State) (i : SlotId) : State :=
  match (s.slot i).state with
  | .free => s
  | .completed => s
  | .queued => seqEnd i .emergency none s
  | .paused => seqEnd i .emergency none s
  | .dwelling => seqEnd i .emergency none s
  | .active => seqEnd i .emergency none s
  | .stopping => seqEnd i .emergency none s

/-- The loop leaves READY (R135): the ALERT first, then the reactions of the blocks. Drive-Off is not
touched here; the closing of the event judges it anew (R62; DESIGN CHOICE, log 46). -/
def leaveReady (s : State) : State :=
  allSlots.foldl tripOne (cutPump (cutStroke (setLoop .tripped none s)))

end Sys2Proof.Machine
end

