-- ==== Sys2Proof/Machine/StartUp.lean ====
section
/-! DEFINITION. The start-up at power-on and at an accepted Restart (R170), and a new Configuration
Record coming into force (R174). -/

namespace Sys2Proof.Machine

/-! ## The store (R170, R174) -/

/-- The store as a start-up finds it: a power loss during programming has left bytes that nothing
states (R174; the free values of log 8). -/
def storeFound (s : State) : Store :=
  match s.store.programming with
  | none => s.store
  | some _ =>
    { s.store with
      bytes := (List.range recordLength).map (Config.tornByte s.free)
      torn := true
      programming := none }

/-- The comparison of R170. A half-programmed record does not match (R174). -/
def storeGood (st : Store) : Bool := !st.torn && checkPasses st.bytes

/-! ## First readings (R131, R166) -/

/-- The loop record after the first reading of both channels (R131). -/
def firstLoop (a b : Bool) : Loop where
  state := if a && b then .ready else .tripped
  closedA := a
  closedB := b
  discT := if a != b then some discrepancyMs else none
  bothOpen := false

/-- The supply state from the first measurement alone (R166). -/
def firstSupply (c : Cfg) (battery : Nat) : SupplyState :=
  if c.tn ≤ battery then .normal else if c.tx ≤ battery then .reduced else .exhausted

/-! ## Reset values (R22, R72, R92, R116, R129, R154, R163, R166, R167) -/

/-- A crew station's live record after a start-up (R154). -/
def freshCrew (st : StationCfg) : Crew where
  link := if st.present then .searching else .absent
  miss := 0
  good := 0
  enable := false
  lastTaken := 0
  nextNum := 0
  queue := []

/-- Every block at its reset values, before any demand is derived and any frame is sent. The command
queue, the clock and the count of free values are the model's own and go on (log 26); a Poll in progress
is dropped unjudged (DESIGN CHOICE, log 42). -/
def resetBlocks (levels : LineLevels) (run : Option TxRun) (s : State) : State :=
  let store := storeFound s
  let good := storeGood store
  let c := if good then readCfg store.bytes else Cfg.inFault
  { pending := s.pending
    clock := s.clock
    free := if s.store.programming.isSome then s.free + 1 else s.free
    sm := { slots := Vector.replicate 12 Slot.empty, queue := [] }
    zt :=
      { blocks := Vector.replicate 5
          { set := Vector.replicate 7 false, state := .unblocked, releaseT := none }
        position := Vector.replicate 5 .home
        intent := Vector.replicate 5 false
        driveOff := false
        permitT := none }
    arb :=
      { holder := none, hold := .none, pump := .off, startT := none, runOnT := none,
        lossT := none }
    sensors := Vector.replicate 7 Sensor.unsynced
    se := { drives := Vector.replicate 7 Drive.rest, stroke := none }
    bu :=
      { warns := Vector.replicate 5 { state := .quiet, preWarnT := none, runOut := false }
        beacons := Vector.replicate 8
          { demand := .none, lit := false, lamp := .ok, low := 0, good := 0, fullOn := false }
        phase := 0
        sounder := false }
    loop := firstLoop levels.closedA levels.closedB
    faults := if good then 0 else flagBit .config
    crew := c.stations.map freshCrew
    poll := { current := none, last := none }
    veh := { status := none, freshT := none }
    cab := { presenceT := none, staging := none, queue := [], next := 0 }
    tx := { run := run, due := true, count := 0, periodT := some partStatusMs }
    sup :=
      { supply := firstSupply c levels.battery, belowNormal := none, belowExh := none,
        aboveExh := none, aboveNormal := none, power := .run, standbyT := none }
    lines :=
      { battery := levels.battery, ignition := levels.ignition, latchMade := levels.latchMade }
    cfg := c
    store := { store with fault := !good, rewritten := false } }

/-- The start-up (R170). Positions and demands are derived once every block has its reset values
(R51, R129); the first round of Polls and the first Part Status begin in the same event (R154, R163;
log 42). -/
def startUp (levels : LineLevels) (run : Option TxRun) (s : State) : State :=
  sendNext (relight (ensurePolling (derivePositions (resetBlocks levels run s))))

/-! ## A new record comes into force (R73, R92, R116, R130, R154, R155, R166) -/

/-- A sensor record across a configuration write (R116). -/
def sensorAcross (old new : AxisCfg) (x : Sensor) : Sensor :=
  if old.present && new.present then x else Sensor.unsynced

/-- A lit interval ends before its on-window does, because the new record gives its demand another
pattern, which is dark at the phase (R127). -/
def cutByRecord (old new : Cfg) (phase : Nat) (x : Beacon) : Bool :=
  x.lit && patternOf old x.demand != patternOf new x.demand
    && !((patternOf new x.demand).any fun p => inWindow phase p)

/-- A beacon's live record across a configuration write (R130). `cut`: its lit interval ends before its
on-window does, and gives no reading (R127). -/
def beaconAcross (new : BeaconCfg) (cut : Bool) (x : Beacon) : Beacon :=
  { x with low := 0, good := 0, lamp := if new.lampCheck then x.lamp else .ok
           fullOn := x.fullOn && !cut }

/-- A crew station's live record across a configuration write (R154). -/
def crewAcross (new : StationCfg) (x : Crew) : Crew :=
  if new.present then
    if x.link = .absent then
      { x with link := .searching, miss := 0, good := 0, enable := false, queue := [] }
    else x
  else { x with link := .absent, enable := false, queue := [] }

/-- The new record comes into force, every block reading what it needs (R174). -/
def comeIntoForce (record : List Byte) (s : State) : State :=
  let old := s.cfg
  let c := readCfg record
  let s := { s with
    sensors := Vector.zipWith (fun (p : AxisCfg × AxisCfg) x => sensorAcross p.1 p.2 x)
      (Vector.zip s.cfg.axes c.axes) s.sensors
    crew := Vector.zipWith crewAcross c.stations s.crew
    sup := { s.sup with belowNormal := none, belowExh := none, aboveExh := none,
                        aboveNormal := none }
    cfg := c }
  let s := mapBeacons (fun b x => beaconAcross c.beacons[b] (cutByRecord old c s.bu.phase x) x) s
  ensurePolling (relight (derivePositions s))

end Sys2Proof.Machine
end

