-- ==== Sys2Proof/Machine/SlotRequests.lean ====
section
/-! DEFINITION. The requests the Sequence Manager owns: Submit (chapter 1) and the requests on slots
(section 2.6), with the expiry of the dwell timer (R30). -/

namespace Sys2Proof.Machine

open Host (Outcome)

/-! ## Submit (R9, R17, R18) -/

/-- A station owns a non-FREE slot with this Tag (R17). -/
def dupTag (s : State) (st : StationId) (tag : Byte) : Bool :=
  allSlots.any fun i =>
    (s.slot i).state != .free && (s.slot i).owner == st && (s.slot i).block.tag == tag

/-- The resource refusals, in their order (R17). -/
def resourceRefusal (s : State) (st : StationId) (tag : Byte) : Option Code :=
  if s.loop.state ≠ .ready then some .stopped
  else if s.store.programming.isSome then some .busy
  else if s.store.fault then some .configFault
  else if dupTag s st tag then some .dupTag
  else if stationSlotMax ≤ ownedCount s st then some .stationLimit
  else none

/-- What a Submit leads to: a refusal with its code and step index, or the slot it is accepted into
(R9, R10, R17, R18). -/
def submitOutcome (s : State) (st : StationId) (bytes : List Byte) : (Code × Nat) ⊕ SlotId :=
  match firstFailure (formatChecks s.store.fault s.cfg st bytes) with
  | some refusal => .inl refusal
  | none =>
    match resourceRefusal s st (submitTag bytes) with
    | some code => .inl (code, 0)
    | none =>
      match lowestFree s with
      | none => .inl (.noSlot, 0)
      | some i => .inr i

/-- The slot record an accepted block is written into (R18, R20). -/
def acceptedSlot (st : StationId) (b : Block) : Slot :=
  { Slot.empty with state := .paused, owner := st, block := b, step := 1 }

/-- An accepted Submit: the slot is written and the answer placed, the power state is judged (R167),
and step 1 becomes current (R18, R27). R9 and R18 give the answer OK the slot and the Tag; the step index
that R180 lays out behind them is 0 (DESIGN CHOICE, log 34). -/
def acceptSubmit (st : StationId) (i : SlotId) (bytes : List Byte) (s : State) : State :=
  let s := modSlot i (fun _ => acceptedSlot st (storedBlock bytes)) s
  makeCurrent i false
    (answer st kindSubmit .ok (.submit (some i) (submitTag bytes) 0) (judgePower s))

/-- The Sequence Manager takes a Submit (R9). -/
def takeSubmit (bytes : List Byte) (st : StationId) (s : State) : State :=
  match submitOutcome s st bytes with
  | .inl (code, index) => answer st kindSubmit code (.submit none (submitTag bytes) index) s
  | .inr i => settle (acceptSubmit st i bytes s)

/-! ## Requests on slots (R41) -/

/-- The non-FREE slot a request names (R41). -/
def namedSlot (s : State) (number : Byte) : Option SlotId :=
  (itemOf 12 number.toNat).filter fun i => (s.slot i).state != .free

/-- The Tag an answer carries (R41). -/
def namedTag (s : State) (number : Byte) : Option Byte :=
  (namedSlot s number).map fun i => (s.slot i).block.tag

/-- The answer to a request on a slot (R41). -/
def answerSlot (st : StationId) (kind : Byte) (code : Code) (number : Byte) (s : State) : State :=
  answer st kind code (.slot number (namedTag s number)) s

/-- The station is the slot's owner or the cab (R41). -/
def ownerOrCab (s : State) (st : StationId) (i : SlotId) : Bool :=
  st == 0 || (s.slot i).owner == st

/-- The slot of a request limited to the owner and the cab, or its refusal (R41). -/
def ownedSlot (s : State) (st : StationId) (number : Byte) : Code ⊕ SlotId :=
  match namedSlot s number with
  | none => .inl .badSlot
  | some i => if ownerOrCab s st i then .inr i else .inl .notOwner

/-- Cancel's test of the state (R42). -/
def cancelJudged (s : State) (st : StationId) (number : Byte) : Code ⊕ SlotId :=
  match ownedSlot s st number with
  | .inl code => .inl code
  | .inr i => if (s.slot i).state = .completed then .inl .wrongState else .inr i

/-- A Cancel of a STOPPING slot converts an interruption into an ending (R42). -/
def convertStop (x : Slot) : Slot :=
  if x.interrupted then { x with interrupted := false, lastEnd := some .cancelled } else x

/-- The effect of a Cancel on a slot (R42). -/
def cancelEffect (i : SlotId) (s : State) : State :=
  match (s.slot i).state with
  | .queued => seqEnd i .cancelled none s
  | .paused => seqEnd i .cancelled none s
  | .dwelling => seqEnd i .cancelled none s
  | .active => controlledStop (.ending .cancelled) s
  | .stopping => modSlot i convertStop s
  | .free => s
  | .completed => s

/-- The Sequence Manager takes a Cancel (R42). -/
def takeCancel (number : Byte) (st : StationId) (s : State) : State :=
  match cancelJudged s st number with
  | .inl code => answerSlot st kindCancel code number s
  | .inr i => settle (cancelEffect i (answerSlot st kindCancel .ok number s))

/-- Release's tests (R43). -/
def releaseJudged (s : State) (st : StationId) (number : Byte) : Code ⊕ SlotId :=
  match ownedSlot s st number with
  | .inl code => .inl code
  | .inr i => if (s.slot i).state = .completed then .inr i else .inl .wrongState

/-- The Sequence Manager takes a Release (R43). -/
def takeRelease (number : Byte) (st : StationId) (s : State) : State :=
  match releaseJudged s st number with
  | .inl code => answerSlot st kindRelease code number s
  | .inr i => settle (freeSlot i (answerSlot st kindRelease .ok number s))

/-- Clear Flag's tests (R44). -/
def clearFlagJudged (s : State) (st : StationId) (number : Byte) : Code ⊕ SlotId :=
  match ownedSlot s st number with
  | .inl code => .inl code
  | .inr i => if (s.slot i).state = .stopping then .inl .wrongState else .inr i

/-- The Sequence Manager takes a Clear Flag (R44). -/
def takeClearFlag (number : Byte) (st : StationId) (s : State) : State :=
  match clearFlagJudged s st number with
  | .inl code => answerSlot st kindClearFlag code number s
  | .inr i =>
    modSlot i (fun x => { x with flag := false }) (answerSlot st kindClearFlag .ok number s)

/-- Rerun's tests, in their order (R45). -/
def rerunJudged (s : State) (st : StationId) (number : Byte) : Code ⊕ SlotId :=
  if s.loop.state ≠ .ready then .inl .stopped
  else if s.store.fault then .inl .configFault
  else match ownedSlot s st number with
    | .inl code => .inl code
    | .inr i =>
      if (s.slot i).state ≠ .completed then .inl .wrongState
      else if (s.slot i).flag then .inl .flagSet
      else .inr i

/-- The record of a slot that is run again (R45). -/
def rerunSlot (x : Slot) : Slot :=
  { x with passCount := 0, lastEnd := none, endStep := none, run := Slot.empty.run, step := 1 }

/-- The Sequence Manager takes a Rerun (R45). -/
def takeRerun (number : Byte) (st : StationId) (s : State) : State :=
  match rerunJudged s st number with
  | .inl code => answerSlot st kindRerun code number s
  | .inr i =>
    settle (makeCurrent i false (modSlot i rerunSlot (answerSlot st kindRerun .ok number s)))

/-- The station may resume a slot: the owner, the confirm station or the cab (R28). -/
def mayResume (s : State) (st : StationId) (i : SlotId) : Bool :=
  ownerOrCab s st i || (match (s.slot i).block.confirm with
    | some c => stationOf c == st
    | none => false)

/-- Resume's tests, in their order (R28). -/
def resumeJudged (s : State) (st : StationId) (number : Byte) : Code ⊕ SlotId :=
  if s.store.fault then .inl .configFault
  else match namedSlot s number with
    | none => .inl .badSlot
    | some i =>
      if !mayResume s st i then .inl .notOwner
      else if (s.slot i).state = .paused then .inr i
      else .inl .wrongState

/-- The Sequence Manager takes a Resume (R28). -/
def takeResume (number : Byte) (st : StationId) (s : State) : State :=
  match resumeJudged s st number with
  | .inl code => answerSlot st kindResume code number s
  | .inr i => settle (resumeStep i (answerSlot st kindResume .ok number s))

/-! ## Interrogate (R46) -/

/-- The stroke of a slot that is ACTIVE or STOPPING (R46). -/
def slotStroke (s : State) (i : SlotId) : Option Stroke :=
  if (s.slot i).state = .active ∨ (s.slot i).state = .stopping then
    s.se.stroke.filter fun k => k.slot == i
  else none

/-- The fields of an Interrogate answer about a non-FREE slot (R46). -/
def reportOf (s : State) (i : SlotId) : SlotReport :=
  let x := s.slot i
  let k := slotStroke s i
  { state := x.state
    owner := x.owner
    tag := x.block.tag
    cls := x.block.cls
    rep := x.block.rep
    step := x.step
    passCount := x.passCount
    flag := x.flag
    pauseCause := if x.state = .paused then x.pauseCause else none
    wait := if x.state = .queued then waitReason s i else none
    phase := k.map (·.phase)
    position := x.curAxis.bind s.axisPos
    elapsed := (k.filter (·.started)).map (·.elapsed)
    limit := (k.filter (·.started)).map (·.limit)
    dwellLeft := if x.state = .dwelling then x.dwellT else none
    lastEnd := if x.state = .completed then x.lastEnd else none
    endStep := if x.state = .completed then x.endStep else none }

/-- The Sequence Manager takes an Interrogate (R46). -/
def takeInterrogate (number : Byte) (st : StationId) (s : State) : State :=
  match itemOf 12 number.toNat with
  | none => answerSlot st kindInterrogate .badSlot number s
  | some i =>
    answer st kindInterrogate .ok
      (.report i (if (s.slot i).state = .free then none else some (reportOf s i))) s

/-! ## The meanings -/

/-- SUBMIT (R9, R10, R17, R18). -/
def execSubmit (src : Sender) (block : List Byte) (s : State) : Outcome State Fault Refusal :=
  .next (viaLink src (takeSubmit block) s)

/-- CANCEL (R42). -/
def execCancel (src : Sender) (slot : Byte) (s : State) : Outcome State Fault Refusal :=
  .next (viaLink src (takeCancel slot) s)

/-- RELEASE (R43). -/
def execRelease (src : Sender) (slot : Byte) (s : State) : Outcome State Fault Refusal :=
  .next (viaLink src (takeRelease slot) s)

/-- CLEAR_FLAG (R44). -/
def execClearFlag (src : Sender) (slot : Byte) (s : State) : Outcome State Fault Refusal :=
  .next (viaLink src (takeClearFlag slot) s)

/-- RERUN (R45). -/
def execRerun (src : Sender) (slot : Byte) (s : State) : Outcome State Fault Refusal :=
  .next (viaLink src (takeRerun slot) s)

/-- RESUME (R28). -/
def execResume (src : Sender) (slot : Byte) (s : State) : Outcome State Fault Refusal :=
  .next (viaLink src (takeResume slot) s)

/-- INTERROGATE (R46): nothing changes but the queue the answer is placed in. -/
def execInterrogate (src : Sender) (slot : Byte) (s : State) : Outcome State Fault Refusal :=
  .next (viaLink src (takeInterrogate slot) s)

/-- DWELL_TIMER_EXPIRY: the DWELL completes normally (R30, R32). -/
def execDwellTimerExpiry (slot : SlotId) (s : State) : Outcome State Fault Refusal :=
  .next (if due (s.slot slot).dwellT then
    settle (stepDone slot (modSlot slot (fun x => { x with dwellT := none }) s))
  else s)

end Sys2Proof.Machine
end

