-- ==== Sys2Proof/Machine/ZoneRequests.lean ====
section
/-! DEFINITION. The requests the Zone Table owns (Block Zone, Unblock Zone, Traffic Permit), and the
expiries of the release, permit and pre-warn timers (chapters 3 and 6). -/

namespace Sys2Proof.Machine

open Host (Outcome)

/-! ## Blocks (R54 to R56) -/

/-- Replace the blocks of a zone. -/
def modBlocks (z : ZoneId) (f : ZoneBlocks → ZoneBlocks) (s : State) : State :=
  { s with zt := { s.zt with blocks := upd s.zt.blocks z f } }

/-- The answer OK of Block Zone and Unblock Zone (R54, R55). -/
def answerZone (st : StationId) (kind : Byte) (z : ZoneId) (s : State) : State :=
  answer st kind .ok (.zone z s.zt.blocks[z].state (blockerCount s.zt.blocks[z].set)) s

/-- Block Zone's tests, in their order (R54). -/
def blockJudged (s : State) (st : StationId) (number : Byte) : Code ⊕ ZoneId :=
  match itemOf 5 number.toNat with
  | none => .inl .badZone
  | some z => if !s.store.fault && !(hasRights s.cfg st z) then .inl .notPermitted else .inr z

/-- The blocks of a zone after an accepted Block Zone (R54). -/
def withBlock (st : StationId) (b : ZoneBlocks) : ZoneBlocks :=
  { set := upd b.set st fun _ => true, state := .blocked, releaseT := none }

/-- The Zone Table takes a Block Zone; on entry into BLOCKED the zone is flushed after the answer
(R54). -/
def takeBlockZone (number : Byte) (st : StationId) (s : State) : State :=
  match blockJudged s st number with
  | .inl code => answer st kindBlockZone code .none s
  | .inr z =>
    let entered := s.zt.blocks[z].state != .blocked
    let s := answerZone st kindBlockZone z (modBlocks z (withBlock st) s)
    settle (if entered then flush z s else s)

/-- The stations left in a Block Set by an Unblock Zone: the cab removes every block (R55). -/
def unblockSet (st : StationId) (set : Vector Bool 7) : Vector Bool 7 :=
  if st = 0 then Vector.replicate 7 false else upd set st fun _ => false

/-- Unblock Zone's tests (R55). -/
def unblockJudged (s : State) (st : StationId) (number : Byte) : Code ⊕ ZoneId :=
  match itemOf 5 number.toNat with
  | none => .inl .badZone
  | some z =>
    let stands := if st = 0 then blockerCount s.zt.blocks[z].set != 0 else s.zt.blocks[z].set[st]
    if stands then .inr z else .inl .wrongState

/-- The blocks of a zone after an accepted Unblock Zone (R55, R56). -/
def withoutBlock (st : StationId) (delay : Nat) (b : ZoneBlocks) : ZoneBlocks :=
  let set := unblockSet st b.set
  if blockerCount set ≠ 0 then { b with set := set }
  else if delay = 0 then { set := set, state := .unblocked, releaseT := none }
  else { set := set, state := .releasing, releaseT := some delay }

/-- The Zone Table takes an Unblock Zone (R55). -/
def takeUnblockZone (number : Byte) (st : StationId) (s : State) : State :=
  match unblockJudged s st number with
  | .inl code => answer st kindUnblockZone code .none s
  | .inr z =>
    settle (answerZone st kindUnblockZone z
      (modBlocks z (withoutBlock st s.cfg.zones[z].releaseDelay) s))

/-! ## The traffic permit (R64, R65) -/

/-- The kind code "grant" of a Traffic Permit (R179). -/
def permitGrant : Byte := 1
/-- The kind code "withdraw" of a Traffic Permit (R179). -/
def permitWithdraw : Byte := 2

/-- Set the traffic permit's timer; the permit is ON while it runs. -/
def setPermit (t : Timer) (s : State) : State := { s with zt := { s.zt with permitT := t } }

/-- The answer OK of a Traffic Permit (R65). -/
def answerPermit (st : StationId) (s : State) : State :=
  answer st kindTrafficPermit .ok (.permit (permitSeconds s)) s

/-- The refusal of a Traffic Permit, if any, in the order of R65. -/
def permitRefusal (s : State) (st : StationId) (code : Byte) : Option Code :=
  if st ≠ 0 then some .notPermitted
  else if s.store.fault then some .configFault
  else if code ≠ permitGrant ∧ code ≠ permitWithdraw then some .badRequest
  else if code = permitGrant ∧ s.zt.driveOff = true then some .wrongState
  else none

/-- The Zone Table takes a Traffic Permit with a kind code (R65). -/
def takePermit (code : Byte) (st : StationId) (s : State) : State :=
  match permitRefusal s st code with
  | some refusal => answer st kindTrafficPermit refusal .none s
  | none =>
    settle (answerPermit st
      (setPermit (if code = permitGrant then some (1000 * s.cfg.permitSeconds) else none) s))

/-! ## The meanings -/

/-- BLOCK_ZONE (R54). -/
def execBlockZone (src : Sender) (zone : Byte) (s : State) : Outcome State Fault Refusal :=
  .next (viaLink src (takeBlockZone zone) s)

/-- UNBLOCK_ZONE (R55). -/
def execUnblockZone (src : Sender) (zone : Byte) (s : State) : Outcome State Fault Refusal :=
  .next (viaLink src (takeUnblockZone zone) s)

/-- TRAFFIC_PERMIT_GRANT (R65). -/
def execTrafficPermitGrant (src : Sender) (s : State) : Outcome State Fault Refusal :=
  .next (viaLink src (takePermit permitGrant) s)

/-- TRAFFIC_PERMIT_WITHDRAW (R65). -/
def execTrafficPermitWithdraw (src : Sender) (s : State) : Outcome State Fault Refusal :=
  .next (viaLink src (takePermit permitWithdraw) s)

/-- RELEASE_TIMER_EXPIRY: the zone enters UNBLOCKED (R56). -/
def execReleaseTimerExpiry (zone : ZoneId) (s : State) : Outcome State Fault Refusal :=
  .next (if due s.zt.blocks[zone].releaseT then
    settle (modBlocks zone (fun b => { b with state := .unblocked, releaseT := none }) s)
  else s)

/-- PERMIT_TIMER_EXPIRY: the permit returns to OFF (R64). -/
def execPermitTimerExpiry (s : State) : Outcome State Fault Refusal :=
  .next (if due s.zt.permitT then settle (setPermit none s) else s)

/-- PRE_WARN_TIMER_EXPIRY (R119). -/
def execPreWarnTimerExpiry (zone : ZoneId) (s : State) : Outcome State Fault Refusal :=
  .next (if due s.bu.warns[zone].preWarnT then settle (preWarnPassed zone s) else s)

end Sys2Proof.Machine
end

