-- ==== Sys2Proof/Machine/ArbiterEvents.lean ====
section
/-! DEFINITION. The Power Pack Arbiter's requests (Hold, Release Hold) and the events of the pump
(chapter 4). -/

namespace Sys2Proof.Machine

open Host (Outcome)

/-! ## Hold (R79 to R82) -/

/-- The level a Hold code asks for (R179). -/
def holdCode (code : Byte) : Option HoldLevel :=
  if code = 1 then some .partly else if code = 2 then some .full else none

/-- The level that results from a Hold (R80). -/
def raisedHold (asked before : HoldLevel) : HoldLevel :=
  match asked, before with
  | .full, _ => .full
  | _, .full => .full
  | .partly, _ => .partly
  | .none, b => b

/-- Set the hold level. -/
def setHold (level : HoldLevel) (s : State) : State := { s with arb := { s.arb with hold := level } }

/-- A rise of the hold level interrupts an ACTIVE holder that it masks (R82). -/
def interruptMasked (s : State) : State :=
  match s.arb.holder with
  | none => s
  | some i => if holdMasks s (s.slot i) then controlledStop .interruption s else s

/-- The Arbiter takes a Hold (R80, R82). The ALERT stands before a "paused" notice of the interruption
in the same event (DESIGN CHOICE, log 38). -/
def takeHold (code : Byte) (st : StationId) (s : State) : State :=
  match holdCode code with
  | none => answer st kindHold .badLevel .none s
  | some asked =>
    let before := s.arb.hold
    let level := raisedHold asked before
    let s := answer st kindHold .ok (.hold level) (setHold level s)
    if level = before then s
    else settle (interruptMasked (placeAll (.alert (.hold level st)) s))

/-- A station may release a hold or reset the loop: the cab, or outside CONFIG_FAULT a level-1 crew
station (R81, R137). -/
def trusted (s : State) (st : StationId) : Bool :=
  st == 0 || (!s.store.fault && levelOf s.cfg st == 1)

/-- The Arbiter takes a Release Hold (R81). The answer stands before the ALERT (DESIGN CHOICE,
log 39). -/
def takeReleaseHold (st : StationId) (s : State) : State :=
  if trusted s st then
    let before := s.arb.hold
    let s := answer st kindReleaseHold .ok .none (setHold .none s)
    if before = .none then s else settle (placeAll (.alert (.hold .none st)) s)
  else answer st kindReleaseHold .notPermitted .none s

/-! ## The pump (R83 to R88, R106) -/

/-- A pressure sample in STARTING (R86). The run-on timer starts when no stroke begins to flow. -/
def pressureStarting (bar : Nat) (s : State) : State :=
  if s.cfg.pready ≤ bar then
    let s := pumpReady { s with arb := { s.arb with pump := .ready, startT := none } }
    settle (if s.arb.pump = .ready ∧ s.arb.runOnT = none then startRunOn s else s)
  else s

/-- A pressure sample in FLOWING, against Plost (R88). -/
def pressureFlowing (bar : Nat) (s : State) : State :=
  if bar < s.cfg.plost then
    if s.arb.lossT.isSome then s
    else { s with arb := { s.arb with lossT := some pressureLossMs } }
  else { s with arb := { s.arb with lossT := none } }

/-- A pressure sample in DRIVING, against the axis's Pstall (R106). -/
def pressureDriving (bar : Nat) (s : State) : State :=
  match s.se.stroke with
  | none => s
  | some k =>
    if k.phase = .driving then
      if (s.axisCfg k.axis).pstall ≤ bar then
        if k.stallT.isSome then s
        else setStroke (some { k with stallT := some stallMs, stallRef := s.lastPos k.axis }) s
      else setStroke (some { k with stallT := none }) s
    else s

/-- A pressure sample, judged by the state it finds (log 20). -/
def takePressure (bar : Nat) (s : State) : State :=
  match s.arb.pump with
  | .starting => pressureStarting bar s
  | .flowing => pressureFlowing bar (pressureDriving bar s)
  | .off => s
  | .ready => s
  | .fault => s

/-- The pump has failed: the holder whose stroke waits for it or draws from it ends PUMP (R86, R88). -/
def pumpFailed (cause : PumpCause) (s : State) : State :=
  let s := pumpFault cause s
  match s.arb.holder with
  | none => s
  | some i => strokeEnds i .pump s

/-! ## The meanings -/

/-- HOLD (R80, R82). -/
def execHold (src : Sender) (level : Byte) (s : State) : Outcome State Fault Refusal :=
  .next (viaLink src (takeHold level) s)

/-- RELEASE_HOLD (R81). -/
def execReleaseHold (src : Sender) (s : State) : Outcome State Fault Refusal :=
  .next (viaLink src takeReleaseHold s)

/-- PUMP_PRESSURE_SAMPLE (R83, R86, R88, R106). -/
def execPumpPressureSample (bar : Nat) (s : State) : Outcome State Fault Refusal :=
  .next (takePressure bar s)

/-- START_TIMER_EXPIRY (R86). -/
def execStartTimerExpiry (s : State) : Outcome State Fault Refusal :=
  .next (if due s.arb.startT then settle (pumpFailed .start s) else s)

/-- RUN_ON_TIMER_EXPIRY: the pump enters OFF (R87). -/
def execRunOnTimerExpiry (s : State) : Outcome State Fault Refusal :=
  .next (if due s.arb.runOnT then
    { s with arb := { s.arb with pump := .off, runOnT := none } }
  else s)

/-- PRESSURE_LOSS_TIMER_EXPIRY (R88). -/
def execPressureLossTimerExpiry (s : State) : Outcome State Fault Refusal :=
  .next (if due s.arb.lossT then settle (pumpFailed .pressure s) else s)

end Sys2Proof.Machine
end

