-- ==== Sys2Proof/Machine/MonitorEvents.lean ====
section
/-! DEFINITION. The Emergency Monitor: the loop's events, Emergency Reset, Clear Faults and Read Status
(chapter 7). -/

namespace Sys2Proof.Machine

open Host (Outcome)

/-! ## The loop (R131 to R137) -/

/-- The reading of a channel. -/
def Loop.reading (l : Loop) : Channel → Bool
  | .a => l.closedA
  | .b => l.closedB

/-- The loop record with one channel's new reading. -/
def Loop.withReading (l : Loop) (ch : Channel) (closed : Bool) : Loop :=
  match ch with
  | .a => { l with closedA := closed }
  | .b => { l with closedB := closed }

/-- The loop state and the both-open mark after a change of reading (R132, R133). The record is judged
with the readings that result. -/
def loopAfter (l : Loop) : LoopState × Bool :=
  match l.state with
  | .ready => (if l.closedA && l.closedB then .ready else .tripped, l.bothOpen)
  | .tripped => (if l.closedA && l.closedB then .closedWait else .tripped, l.bothOpen)
  | .closedWait => (if l.closedA && l.closedB then .closedWait else .tripped, l.bothOpen)
  | .loopFault =>
    if !l.closedA && !l.closedB then (.loopFault, true)
    else if l.closedA && l.closedB && l.bothOpen then (.closedWait, false)
    else (.loopFault, l.bothOpen)

/-- The discrepancy timer after a change of reading (R133). -/
def discrepancyAfter (l : Loop) : Timer :=
  if l.state = .loopFault then l.discT
  else if l.closedA = l.closedB then none
  else if l.discT.isSome then l.discT
  else some discrepancyMs

/-- A change of a channel's reading (R132): the discrepancy timer is tested after the change of
state. -/
def channelChanged (ch : Channel) (closed : Bool) (s : State) : State :=
  let l := s.loop.withReading ch closed
  let after := loopAfter l
  let timer := discrepancyAfter { l with state := after.1 }
  let s := { s with loop := { l with bothOpen := after.2, discT := timer } }
  if after.1 = l.state then s
  else if l.state = .ready then leaveReady s
  else setLoop after.1 none s

/-- The discrepancy timer expires: LOOP_FAULT (R133). -/
def discrepancyExpired (s : State) : State :=
  report .loop
    (setLoop .loopFault none { s with loop := { s.loop with discT := none, bothOpen := false } })

/-- The Emergency Monitor takes an Emergency Reset (R137). The answer precedes the ALERT; at the return
to READY the power state is judged afresh (R136). -/
def takeEmergencyReset (st : StationId) (s : State) : State :=
  if !trusted s st then answer st kindEmergencyReset .notPermitted (.loop s.loop.state) s
  else if s.loop.state = .closedWait then
    settle (judgePower
      (setLoop .ready (some st) (answer st kindEmergencyReset .ok (.loop .ready) s)))
  else answer st kindEmergencyReset .wrongState (.loop s.loop.state) s

/-! ## The Fault Summary (R139, R140) -/

/-- The clearing condition of a flag (R140). -/
def clearable (s : State) : Flag → Bool
  | .pump => true
  | .loop => s.loop.state != .loopFault
  | .config => false
  | .chassisStale => s.fresh
  | .sensor a => !(s.axisCfg a).present || s.sensors[a].state != .fault
  | .lamp b => s.bu.beacons[b].lamp == .ok
  | .noticesLost _ => true

/-- The flags of a map that are set and whose clearing condition holds. -/
def clearedFlags (s : State) (map : BitVec 32) : BitVec 32 :=
  allFlags.foldl
    (fun acc f => if flagIn map f && flagIn s.faults f && clearable s f then raiseFlag f acc
      else acc) 0#32

/-- The named flags are treated together (R139); clearing PUMP takes a FAULT pump to OFF (R89). -/
def clearNamed (map : BitVec 32) (s : State) : State :=
  let cleared := clearedFlags s map
  let pump :=
    if flagIn cleared .pump ∧ s.arb.pump = .fault then .off else s.arb.pump
  { s with faults := s.faults &&& ~~~cleared, arb := { s.arb with pump := pump } }

/-- The Emergency Monitor takes a Clear Faults (R139). -/
def takeClearFaults (map : BitVec 32) (st : StationId) (s : State) : State :=
  if namesNoFlag map then answer st kindClearFaults .badFlag .none s
  else
    let s := clearNamed map s
    settle (answer st kindClearFaults .ok (.faults (map &&& s.faults) s.faults) s)

/-- The Emergency Monitor takes a Read Status (R142). -/
def takeReadStatus (st : StationId) (s : State) : State :=
  answer st kindReadStatus .ok (.status s.faults (summaryOf s)) s

/-! ## The meanings -/

/-- EMERGENCY_RESET (R137). -/
def execEmergencyReset (src : Sender) (s : State) : Outcome State Fault Refusal :=
  .next (viaLink src takeEmergencyReset s)

/-- CLEAR_FAULTS (R139). -/
def execClearFaults (src : Sender) (map : BitVec 32) (s : State) : Outcome State Fault Refusal :=
  .next (viaLink src (takeClearFaults map) s)

/-- READ_STATUS (R142): nothing changes but the queue the answer is placed in. -/
def execReadStatus (src : Sender) (s : State) : Outcome State Fault Refusal :=
  .next (viaLink src takeReadStatus s)

/-- CHANNEL_CHANGE (R132). In PARKED a change is a wake event (R168). A reading that does not change
is no event. -/
def execChannelChange (channel : Channel) (closed : Bool) (s : State) :
    Outcome State Fault Refusal :=
  .next (if s.loop.reading channel = closed then s
  else settle (channelChanged channel closed (wake s)))

/-- DISCREPANCY_TIMER_EXPIRY (R133). -/
def execDiscrepancyTimerExpiry (s : State) : Outcome State Fault Refusal :=
  .next (if due s.loop.discT then settle (discrepancyExpired s) else s)

end Sys2Proof.Machine
end

