-- ==== Sys2Proof/Machine/PowerEvents.lean ====
section
/-! DEFINITION. Supply and Power Control: the battery, the power states, the Configuration Store and
the start-up commands (chapter 10). -/

namespace Sys2Proof.Machine

open Host (Outcome)

/-! ## Configuration requests (R171 to R175) -/

/-- The mark of a Read Configuration answer (R175). -/
def configMark (st : Store) : ConfigMark :=
  if !st.fault then .none else if st.rewritten then .notInForce else .checkFailed

/-- Supply and Power Control takes a Read Configuration (R175). The store keeps the old record while
a write is being programmed. -/
def takeReadConfiguration (part : Byte) (st : StationId) (s : State) : State :=
  match partSpan part.toNat with
  | none => answer st kindReadConfiguration .badSection .none s
  | some span =>
    answer st kindReadConfiguration .ok
      (.config (partBytes s.store.bytes span) (carriedCheck s.store.bytes) (configMark s.store)) s

/-- The chassis status is fresh and reports the parking brake applied (R173). -/
def brakeKnown (s : State) : Bool :=
  s.fresh && (match s.veh.status with
    | some v => v.brake
    | none => false)

/-- The refusal of the cab's Write Configuration, if any, in the order of R173. A run of another
length than the record cannot be decoded (R184; log 9). -/
def writeRefusal (s : State) (record : List Byte) : Option (Code × Result) :=
  if record.length ≠ recordLength then some (.badRequest, .none)
  else if s.store.programming.isSome then some (.busy, .none)
  else if !(allSlotsFree s) || s.loop.state != .ready || s.sup.power != .run || !(brakeKnown s) then
    some (.wrongState, .none)
  else (rangeFailure record).map fun k => (.configRange, .field k)

/-- Supply and Power Control takes a Write Configuration (R173). An accepted one is answered at its
completion. -/
def takeWriteConfiguration (record : List Byte) (st : StationId) (s : State) : State :=
  if st ≠ 0 then answer st kindWriteConfiguration .notPermitted .none s
  else match writeRefusal s record with
    | some (code, r) => answer 0 kindWriteConfiguration code r s
    | none => { s with store := { s.store with programming := some record } }

/-- Programming ends (R174). -/
def writeCompleted (record : List Byte) (s : State) : State :=
  let store : Store := { s.store with bytes := record, torn := false, programming := none,
                                      rewritten := s.store.fault }
  let s := { s with store := store }
  let s := if s.store.fault then s else comeIntoForce record s
  answer 0 kindWriteConfiguration .ok (.written (carriedCheck record) s.store.fault) s

/-- The levels of the lines as they stand, with the first measurement of a start-up. -/
def standingLevels (s : State) (battery : Nat) : LineLevels where
  closedA := s.loop.closedA
  closedB := s.loop.closedB
  battery := battery
  ignition := s.lines.ignition
  latchMade := s.lines.latchMade

/-- The refusal of a Restart, if any (R171). -/
def restartRefusal (s : State) (st : StationId) : Option Code :=
  if st ≠ 0 then some .notPermitted
  else if s.store.programming.isSome then some .busy
  else if !(allSlotsFree s) then some .wrongState
  else none

/-- Supply and Power Control takes a Restart (R171). A run being sent stops after its current frame
(R163). -/
def takeRestart (battery : Nat) (st : StationId) (s : State) : State :=
  match restartRefusal s st with
  | some code => answer st kindRestart code .none s
  | none =>
    startUp (standingLevels s battery) (s.tx.run.map fun r => { r with abandoned := true }) s

/-! ## The battery (R164 to R166) -/

/-- The start time of a condition after a measurement (R164). -/
def startTime (now : Nat) (holds : Bool) (t : Option Nat) : Option Nat :=
  if holds then some (t.getD now) else none

/-- A condition has held for 2000 ms at a measurement (R164). -/
def heldLong (now : Nat) (t : Option Nat) : Bool :=
  match t with
  | some t0 => t0 + persistenceMs ≤ now
  | none => false

/-- The four start times after a measurement (R164). -/
def measured (now battery : Nat) (c : Cfg) (p : Supply) : Supply :=
  { p with
    belowNormal := startTime now (battery < c.tn) p.belowNormal
    belowExh := startTime now (battery < c.tx) p.belowExh
    aboveExh := startTime now (c.tx + hysteresis ≤ battery) p.aboveExh
    aboveNormal := startTime now (c.tn + hysteresis ≤ battery) p.aboveNormal }

/-- The supply state after a measurement, by worsening and then improving (R165). -/
def supplyAfter (now : Nat) (p : Supply) : SupplyState :=
  if heldLong now p.belowExh = true ∧ p.supply ≠ .exhausted then .exhausted
  else if heldLong now p.belowNormal = true ∧ p.supply = .normal then .reduced
  else if heldLong now p.aboveNormal = true ∧ p.supply ≠ .normal then .normal
  else if heldLong now p.aboveExh = true ∧ p.supply = .exhausted then .reduced
  else p.supply

/-- A battery measurement is taken (R164, R165). -/
def takeMeasurement (battery : Nat) (s : State) : State :=
  let s := { s with lines := { s.lines with battery := battery } }
  if engineRunning s then s
  else
    let p := measured s.clock battery s.cfg s.sup
    let s := { s with sup := p }
    if supplyAfter s.clock p = p.supply then s
    else settle (changeSupply (supplyAfter s.clock p) s)

/-! ## Power states (R167, R168) -/

/-- The power state is judged at a change of the ignition (R167). -/
def judgeIgnition (before : Bool) (s : State) : State :=
  if ignitionOn s = before then s else judgePower s

/-- The ignition line has changed (R167). In PARKED the line passing to on is a wake event (R168). -/
def ignitionChanged (on : Bool) (s : State) : State :=
  let before := ignitionOn s
  let s := { s with lines := { s.lines with ignition := on } }
  if s.parked then (if on then wake s else s) else judgeIgnition before s

/-- Enter PARKED (R168): enables are released (R153), watchdogs suspended (R116), the Part Status
period stopped (R162), beacons and sounder dark (R129), which cuts a lit interval short (R127). -/
def enterParked (s : State) : State :=
  let s := { s with sup := { s.sup with power := .parked, standbyT := none } }
  let s := allCrew.foldl (fun s c => setEnable c false s) s
  let s := { s with sensors := s.sensors.map fun (x : Sensor) => { x with watchdog := none } }
  let s := mapBeacons (fun _ x => { x with fullOn := false }) s
  relight { s with tx := { s.tx with periodT := none } }

/-- A latch switch has changed: the Zone Table derives anew (R51), and a stroke in LATCH_WAIT for
that door drives (R110). -/
def latchChanged (d : DoorId) (made : Bool) (s : State) : State :=
  let s := derivePositions
    { s with lines := { s.lines with latchMade := upd s.lines.latchMade d fun _ => made } }
  match s.se.stroke with
  | none => s
  | some k =>
    if k.phase = .latchWait ∧ k.axis = doorAxis d ∧ made = false then beginDriving k k.s s else s

/-! ## The meanings -/

/-- READ_CONFIGURATION (R175): nothing changes but the queue the answer is placed in. -/
def execReadConfiguration (src : Sender) (part : Byte) (s : State) : Outcome State Fault Refusal :=
  .next (viaLink src (takeReadConfiguration part) s)

/-- WRITE_CONFIGURATION (R173). -/
def execWriteConfiguration (src : Sender) (record : List Byte) (s : State) :
    Outcome State Fault Refusal :=
  .next (viaLink src (takeWriteConfiguration record) s)

/-- RESTART (R171). -/
def execRestart (src : Sender) (battery : Nat) (s : State) : Outcome State Fault Refusal :=
  .next (viaLink src (takeRestart battery) s)

/-- WRITE_CONFIGURATION_COMPLETION (R174). -/
def execWriteConfigurationCompletion (s : State) : Outcome State Fault Refusal :=
  .next (match s.store.programming with
    | some record => settle (writeCompleted record s)
    | none => s)

/-- POWER_ON (R170). -/
def execPowerOn (levels : LineLevels) (s : State) : Outcome State Fault Refusal :=
  .next (startUp levels none s)

/-- BATTERY_MEASUREMENT (R164, R165). -/
def execBatteryMeasurement (decivolts : Nat) (s : State) : Outcome State Fault Refusal :=
  .next (takeMeasurement decivolts s)

/-- IGNITION_LINE_CHANGE (R167). A level that does not change is no event. -/
def execIgnitionLineChange (on : Bool) (s : State) : Outcome State Fault Refusal :=
  .next (if s.lines.ignition = on then s else ignitionChanged on s)

/-- WAKE_LINE_PULL: a wake event in PARKED, no effect outside it (R153). -/
def execWakeLinePull (s : State) : Outcome State Fault Refusal :=
  .next (wake s)

/-- STANDBY_TIMER_EXPIRY: the part enters PARKED (R167, R168). -/
def execStandbyTimerExpiry (s : State) : Outcome State Fault Refusal :=
  .next (if due s.sup.standbyT then enterParked s else s)

/-- LATCH_SWITCH_CHANGE (R51, R110). In PARKED a change is a wake event (R168). A reading that does
not change is no event. -/
def execLatchSwitchChange (door : DoorId) (made : Bool) (s : State) : Outcome State Fault Refusal :=
  .next (if s.lines.latchMade[door] = made then s else settle (latchChanged door made (wake s)))

end Sys2Proof.Machine
end

