-- ==== Sys2Proof/Machine/AxisEvents.lean ====
section
/-! DEFINITION. The Stroke Engine's events: position samples, watchdogs and the timers of a stroke
(chapter 5). -/

namespace Sys2Proof.Machine

open Host (Outcome)

/-! ## Sensors (R93 to R95) -/

/-- The watchdog as a sample starts it; in PARKED it is left stopped (R116). -/
def watchdogStart (parked : Bool) : Timer := if parked then none else some watchdogMs

/-- A sensor record after a sample (R93, R94). -/
def sampled (parked flagged : Bool) (p : Nat) (x : Sensor) : Sensor :=
  match x.state with
  | .unsynced =>
    if flagged then { x with cand := none }
    else match x.cand with
      | none => { x with cand := some p }
      | some c =>
        if near c p syncWindow then
          { state := .valid, last := some p, cand := none, watchdog := watchdogStart parked }
        else { x with cand := some p }
  | .valid =>
    if flagged || !(near (x.last.getD 0) p jumpLimit) then
      { x with state := .fault, watchdog := none }
    else { x with last := some p, watchdog := watchdogStart parked }
  | .fault =>
    if flagged then x else { x with state := .unsynced, cand := some p }

/-- Replace the sensor record of an axis. -/
def setSensor (a : AxisId) (x : Sensor) (s : State) : State :=
  { s with sensors := upd s.sensors a fun _ => x }

/-- A sensor has entered FAULT: its flag is set, and a stroke on its axis stops immediately, whatever
its phase (R95). -/
def sensorFaulted (a : AxisId) (s : State) : State :=
  let s := report (.sensor a) s
  match s.arb.holder with
  | none => s
  | some i => if (s.slot i).curAxis = some a then strokeEnds i .sensor s else s

/-- A sample of a stroke in DRIVING, with the new last VALID position `p` (R105). -/
def driveSample (k : Stroke) (p : Nat) (s : State) : State :=
  let c := s.axisCfg k.axis
  if overTest c k p then strokeEnds k.slot .over s
  else if arrivalTest c k p then arrive joinBound p k s
  else
    let k := if k.stallT.isSome && stallMotion ≤ gapOf p k.stallRef then { k with stallT := none }
      else k
    setStroke (some k) (modDrive k.axis (fun x => { x with level := driveLevel c k p }) s)

/-- A sample whose sensor stays VALID reaches the stroke of its axis (R105, R108, R114). -/
def strokeSample (a : AxisId) (p : Nat) (s : State) : State :=
  match s.se.stroke with
  | none => s
  | some k =>
    if k.axis = a then
      match k.phase with
      | .driving => driveSample k p s
      | .stopping => rampLevelNow k s
      | .pumpWait => s
      | .latchWait => s
      | .settling => s
    else s

/-- A sample of a present axis is taken (R93 to R95, R105). -/
def takeSample (a : AxisId) (flagged : Bool) (p : Nat) (s : State) : State :=
  let old := s.sensors[a]
  let new := sampled s.parked flagged p old
  let s := derivePositions (setSensor a new s)
  if new.state = .fault ∧ old.state ≠ .fault then sensorFaulted a s
  else if new.state = .valid then strokeSample a p s
  else s

/-- The watchdog of a sensor expires (R94). -/
def watchdogExpired (a : AxisId) (s : State) : State :=
  sensorFaulted a
    (derivePositions (setSensor a { s.sensors[a] with state := .fault, watchdog := none } s))

/-! ## The timers of a stroke -/

/-- The stroke record, if one of its timers is due. -/
def strokeWith (t : Stroke → Timer) (s : State) : Option Stroke :=
  s.se.stroke.filter fun k => due (t k)

/-! ## The meanings -/

/-- SENSOR_SAMPLE (R93 to R95, R105). Samples of an axis not present are disregarded. -/
def execSensorSample (axis : AxisId) (flagged : Bool) (position : Nat) (s : State) :
    Outcome State Fault Refusal :=
  .next (if (s.axisCfg axis).present then settle (takeSample axis flagged position s) else s)

/-- SAMPLE_WATCHDOG_EXPIRY (R94). -/
def execSampleWatchdogExpiry (axis : AxisId) (s : State) : Outcome State Fault Refusal :=
  .next (if due s.sensors[axis].watchdog then settle (watchdogExpired axis s) else s)

/-- TIME_LIMIT_EXPIRY: the stroke ends TIMEOUT (R107). -/
def execTimeLimitExpiry (s : State) : Outcome State Fault Refusal :=
  .next (match strokeWith (·.limitT) s with
    | some k => settle (strokeEnds k.slot .timeout s)
    | none => s)

/-- STALL_TIMER_EXPIRY: the stroke ends STALLED (R106). -/
def execStallTimerExpiry (s : State) : Outcome State Fault Refusal :=
  .next (match strokeWith (·.stallT) s with
    | some k => settle (strokeEnds k.slot .stalled s)
    | none => s)

/-- LATCH_TIMER_EXPIRY: the stroke ends LATCH (R110). -/
def execLatchTimerExpiry (s : State) : Outcome State Fault Refusal :=
  .next (match strokeWith (·.latchT) s with
    | some k => settle (strokeEnds k.slot .latch s)
    | none => s)

/-- SETTLE_TIMER_EXPIRY: the end is judged where the axis came to rest (R108). -/
def execSettleTimerExpiry (s : State) : Outcome State Fault Refusal :=
  .next (match strokeWith (·.settleT) s with
    | some k => settle (strokeEnds k.slot (settleEnd s k) s)
    | none => s)

/-- RAMP_TIMER_EXPIRY: STOPPING ends (R114, R34). -/
def execRampTimerExpiry (s : State) : Outcome State Fault Refusal :=
  .next (match strokeWith (·.rampT) s with
    | some k => settle (stopEnds k s)
    | none => s)

end Sys2Proof.Machine
end

