-- ==== Sys2Proof/Machine/BeaconEvents.lean ====
section
/-! DEFINITION. The Beacon Unit's events: lamp readings and flash edges (chapter 6). -/

namespace Sys2Proof.Machine

open Host (Outcome)

/-- A beacon's live record after a reading of its lamp (R127). -/
def lampRead (imin milliamps : Nat) (x : Beacon) : Beacon :=
  let x := { x with fullOn := false }
  if milliamps < imin then
    let low := satInc 3 x.low
    { x with good := 0, low := low, lamp := if low = 3 then .failed else x.lamp }
  else
    let good := satInc 3 x.good
    { x with low := 0, good := good, lamp := if good = 3 then .ok else x.lamp }

/-- A reading of a beacon is taken: its lamp is checked, the part is not PARKED and holds a record,
and a full on-phase has just ended (R127, R129; log 21). -/
def readingDue (s : State) (b : BeaconId) : Bool :=
  s.cfg.beacons[b].lampCheck && !s.parked && !s.store.fault && s.bu.beacons[b].fullOn
    && s.bu.beacons[b].demand != .none && !(litAt s s.bu.beacons[b].demand)

/-- A lamp's recovery brings each waiting zone of its mask into WARNED (R120). -/
def lampRecovered (b : BeaconId) (s : State) : State :=
  allZones.foldl
    (fun s z =>
      if maskHas s.cfg.beacons[b].mask z && s.bu.warns[z].state == .warning
          && s.bu.warns[z].runOut then
        modWarn z (fun _ => { state := .warned, preWarnT := none, runOut := false }) s
      else s) s

/-- A reading is taken (R127); a lamp that becomes FAILED is reported (R138). -/
def takeReading (b : BeaconId) (milliamps : Nat) (s : State) : State :=
  let old : LampState := s.bu.beacons[b].lamp
  let v := upd s.bu.beacons b (lampRead s.cfg.beacons[b].imin milliamps)
  let s := { s with bu := { s.bu with beacons := v } }
  let new : LampState := s.bu.beacons[b].lamp
  if old = .ok ∧ new = .failed then settle (report (.lamp b) s)
  else if old = .failed ∧ new = .ok then settle (lampRecovered b s)
  else s

/-! ## The meanings -/

/-- LAMP_READING (R127, R120). -/
def execLampReading (beacon : BeaconId) (milliamps : Nat) (s : State) :
    Outcome State Fault Refusal :=
  .next (if readingDue s beacon then takeReading beacon milliamps s else s)

/-- FLASH_EDGE: every beacon and the sounder follow the phase (R126, R128). -/
def execFlashEdge (s : State) : Outcome State Fault Refusal :=
  .next (soundNow (mapBeacons (fun _ x => x.edge s) s))

end Sys2Proof.Machine
end

