-- ==== Sys2Proof/Machine/LinkEvents.lean ====
section
/-! DEFINITION. The Crew Link Controller (chapter 8): a decoded request handed to its owner, the
judgement of a Poll, and the end of a Poll. -/

namespace Sys2Proof.Machine

open Host (Outcome)

/-! ## Requests by their kind (R150, R184) -/

/-- Hand a decoded request to the block that owns it (R150). A Restart carried by a frame measures
the battery as it stands (log 17). -/
def takeRequest (r : Request) (st : StationId) (s : State) : State :=
  match r with
  | .submit b => takeSubmit b st s
  | .cancel i => takeCancel i st s
  | .release i => takeRelease i st s
  | .clearFlag i => takeClearFlag i st s
  | .rerun i => takeRerun i st s
  | .resume i => takeResume i st s
  | .interrogate i => takeInterrogate i st s
  | .blockZone z => takeBlockZone z st s
  | .unblockZone z => takeUnblockZone z st s
  | .trafficPermit c => takePermit c st s
  | .hold l => takeHold l st s
  | .releaseHold => takeReleaseHold st s
  | .emergencyReset => takeEmergencyReset st s
  | .clearFaults m => takeClearFaults m st s
  | .readStatus => takeReadStatus st s
  | .readConfiguration p => takeReadConfiguration p st s
  | .writeConfiguration b => takeWriteConfiguration b st s
  | .restart => takeRestart s.lines.battery st s

/-- The request field of a Reply, or a Cab Request frame, as bytes: one that cannot be decoded is
answered BAD_REQUEST with its kind byte as received (R184). -/
def takeBody (body : List Byte) (st : StationId) (s : State) : State :=
  match body with
  | [] => s
  | kind :: params =>
    match decodeRequest kind params with
    | some r => takeRequest r st s
    | none => answer st kind .badRequest .none s

/-- A Cab Request frame: Submit and Write Configuration do not fit in one (R158). -/
def takeCabBody (body : List Byte) (s : State) : State :=
  match body with
  | [] => s
  | kind :: _ =>
    if kind = kindSubmit ∨ kind = kindWriteConfiguration then
      answer 0 kind .segment (.segment kind .singleFrame) s
    else takeBody body 0 s

/-- The request bytes of a sender (R150, R158). -/
def takeRaw (body : List Byte) (st : StationId) (s : State) : State :=
  if st = 0 then takeCabBody body s else takeBody body st s

/-! ## The judgement of a Poll (R147 to R152) -/

/-- The link state and the counts after a good reply (R147). A station that a write has made ABSENT
since its Poll was sent keeps both (DESIGN CHOICE, log 41). -/
def afterGood (x : Crew) : Crew :=
  match x.link with
  | .absent => x
  | .online => { x with miss := 0, good := satInc 2 x.good }
  | .searching =>
    if satInc 2 x.good = 2 then { x with link := .online, miss := 0, good := 0 }
    else { x with miss := 0, good := satInc 2 x.good }
  | .lost =>
    if satInc 2 x.good = 2 then { x with link := .online, miss := 0, good := 0 }
    else { x with miss := 0, good := satInc 2 x.good }

/-- The link state and the counts after a miss (R147). A station that a write has made ABSENT since its
Poll was sent keeps both (DESIGN CHOICE, log 41). -/
def afterMiss (x : Crew) : Crew :=
  match x.link with
  | .absent => x
  | .online =>
    if satInc 3 x.miss = 3 then { x with link := .lost, miss := 0, good := 0 }
    else { x with miss := satInc 3 x.miss, good := 0 }
  | .searching => { x with miss := satInc 3 x.miss, good := 0 }
  | .lost => { x with miss := satInc 3 x.miss, good := 0 }

/-- The queue after a good reply to a Poll that carried a notice: the head is removed if it is still
that notice (R152). -/
def afterCarried (carried : Option (Byte × Notice)) (q : List (Byte × Notice)) :
    List (Byte × Notice) :=
  match carried, q with
  | some n, h :: rest => if h.1 = n.1 then rest else q
  | _, _ => q

/-- The request of a good reply, after the link and the enable have been judged (R150); also in PARKED, where
the Poll then in progress is judged (R153; DESIGN CHOICE, log 45). -/
def replyRequest (c : CrewId) (f : ReplyFields) (s : State) : State :=
  if f.body.isEmpty || s.crew[c].link != .online || s.crew[c].lastTaken == f.number then s
  else takeBody f.body (stationOf c) (modCrew c (fun x => { x with lastTaken := f.number }) s)

/-- A good reply, in the order of R152, R147, R149 and R150: what follows from the enable (intent and the
grant, R71, R76) is taken before the request. -/
def goodReply (p : Poll) (f : ReplyFields) (s : State) : State :=
  let c := p.station
  let s := modCrew c (fun x => afterGood { x with queue := afterCarried p.notice x.queue }) s
  replyRequest c f (settle (setEnable c (f.enable && s.crew[c].link == .online) s))

/-- A miss (R147 to R149); a station that becomes LOST loses its notices and its slots are treated
(R148). -/
def missed (p : Poll) (s : State) : State :=
  let c := p.station
  let was := s.crew[c].link
  let s := setEnable c false (modCrew c afterMiss s)
  if was = .online ∧ s.crew[c].link = .lost then
    ownerLoss (stationOf c) (modCrew c (fun x => { x with queue := [] }) s)
  else s

/-- The Poll that awaits its Reply (R144). -/
def awaiting (s : State) : Option Poll := s.poll.current.filter fun p => p.window.isSome

/-- The Poll whose reply window has passed without a Reply (R144). -/
def unanswered (s : State) : Option Poll := s.poll.current.filter fun p => due p.window

/-- A Reply to a Poll that awaits one (R144). -/
def takeReply (p : Poll) (frame : List Byte) (s : State) : State :=
  match readReply p.station frame with
  | some f => goodReply p f s
  | none => missed p s

/-- The Poll has ended on the line, and the window runs (R144). -/
def pollEnded (p : Poll) (s : State) : State :=
  { s with poll := { s.poll with current := some { p with window := some replyWindowMs } } }

/-! ## The meanings -/

/-- REPLY (R144, R147 to R152). A Reply that no Poll awaits is disregarded (log 22). -/
def execReply (frame : List Byte) (s : State) : Outcome State Fault Refusal :=
  .next (match awaiting s with
    | some p => nextPoll (settle (takeReply p frame s))
    | none => s)

/-- REPLY_WINDOW_EXPIRY: a miss (R144). -/
def execReplyWindowExpiry (s : State) : Outcome State Fault Refusal :=
  .next (match unanswered s with
    | some p => nextPoll (settle (missed p s))
    | none => s)

/-- POLL_END: the Poll has ended, and the window of 10 ms begins (R144). -/
def execPollEnd (s : State) : Outcome State Fault Refusal :=
  .next (match s.poll.current with
    | some p => if p.window.isSome then s else pollEnded p s
    | none => s)

/-- UNDECODABLE_REQUEST (R184); bytes that do decode are taken as what they are (log 6). -/
def execUndecodableRequest (src : Sender) (body : List Byte) (s : State) :
    Outcome State Fault Refusal :=
  .next (viaLink src (takeRaw body) s)

end Sys2Proof.Machine
end

