-- ==== Sys2Proof/Machine/PortEvents.lean ====
section
/-! DEFINITION. The Chassis Port (chapter 9): received frames, the staging buffer, its timers and the
transmitter. -/

namespace Sys2Proof.Machine

open Host (Outcome)

/-! ## The vehicle (R156) -/

/-- The engine runs: the supply is NORMAL at once and the start times are none (R165). -/
def engineHanded (s : State) : State :=
  if engineRunning s then
    changeSupply .normal
      { s with sup := { s.sup with belowNormal := none, belowExh := none, aboveExh := none,
                                   aboveNormal := none } }
  else s

/-- A Chassis Status frame is taken (R156); a malformed one is disregarded whole (R184). -/
def takeChassis (data : List Byte) (s : State) : State :=
  match readChassis data with
  | none => s
  | some v =>
    let held := vehicleOk s
    let ignition := ignitionOn s
    let s := { s with veh := { status := some v, freshT := some freshnessMs } }
    settle (judgeIgnition ignition (engineHanded (judgeVehicle held s)))

/-- The chassis status becomes STALE (R156). -/
def becomeStale (s : State) : State :=
  let held := vehicleOk s
  let ignition := ignitionOn s
  let s := report .chassisStale { s with veh := { s.veh with freshT := none } }
  judgeIgnition ignition (judgeVehicle held s)

/-! ## Cab presence (R157) -/

/-- A Cab Presence frame is taken (R157). -/
def takePresence (s : State) : State :=
  { s with cab := { s.cab with presenceT := some presenceMs } }

/-- A notice's run being sent stops after its current frame (R157; log 15). -/
def abandonNotices (run : Option TxRun) : Option TxRun :=
  run.map fun r => match r.content with
    | .notice _ => { r with abandoned := true }
    | .partStatus _ _ _ => r

/-- The cab becomes LOST (R157). -/
def cabLost (s : State) : State :=
  ownerLoss 0
    { s with
      cab := { s.cab with presenceT := none, staging := none, queue := [] }
      tx := { s.tx with run := abandonNotices s.tx.run } }

/-! ## The staging buffer (R159, R160) -/

/-- Set the staging buffer. -/
def setStaging (g : Option Staging) (s : State) : State :=
  { s with cab := { s.cab with staging := g } }

/-- A refusal SEGMENT (R160). -/
def refuseSegment (kind : Byte) (failure : SegFailure) (s : State) : State :=
  sendNext (answer 0 kind .segment (.segment kind failure) s)

/-- A run being gathered fails (R160). -/
def failRun (g : Staging) (failure : SegFailure) (s : State) : State :=
  refuseSegment g.kind failure (setStaging none s)

/-- The greatest total length of a run of a kind; none for a kind that does not travel as a run
(R159). -/
def runLimit (kind : Byte) : Option Nat :=
  if kind = kindSubmit then some 156
  else if kind = kindWriteConfiguration then some 576
  else none

/-- A first segment against an EMPTY buffer (R159, R184). Bytes behind its fourth are disregarded
(DESIGN CHOICE, log 35). -/
def openRun (data : List Byte) (s : State) : State :=
  let kind := data.getD 1 0
  let total := u16 data 2
  match runLimit kind with
  | none => refuseSegment kind .length s
  | some limit =>
    if data.length < 4 ∨ total = 0 ∨ limit < total then refuseSegment kind .length s
    else setStaging (some { kind := kind, total := total, bytes := [], next := 1, gapT := gapMs }) s

/-- A first segment is taken (R159). -/
def takeFirst (data : List Byte) (s : State) : State :=
  match s.cab.staging with
  | none => openRun data s
  | some g => openRun data (failRun g .newFirst s)

/-- A complete run is handed to its owner (R159). -/
def handRun (g : Staging) (s : State) : State :=
  let content := g.bytes.take g.total
  let s := setStaging none s
  sendNext (if g.kind = kindSubmit then takeSubmit content 0 s
    else takeWriteConfiguration content 0 s)

/-- A data segment is taken (R159, R184). The length is tested before the index (DESIGN CHOICE, log 28);
an eighth byte is disregarded (log 35). -/
def takeData (data : List Byte) (s : State) : State :=
  match s.cab.staging with
  | none => s
  | some g =>
    if data.length < 7 then failRun g .length s
    else if u8 data 0 ≠ g.next then failRun g .wrongIndex s
    else
      let g2 := { g with bytes := g.bytes ++ (data.drop 1).take 6, next := g.next + 1,
                         gapT := gapMs }
      if dataFrames g.total < g2.next then handRun g2 s else setStaging (some g2) s

/-! ## The transmitter (R161, R162) -/

/-- The cab queue when a notice's run has been sent: the notice leaves the head (R161). -/
def afterSent (number : Byte) (q : List (Byte × Notice)) : List (Byte × Notice) :=
  match q with
  | h :: rest => if h.1 = number then rest else q
  | [] => []

/-- The frame of a run has been acknowledged (R161). -/
def frameAcknowledged (r : TxRun) (s : State) : State :=
  if r.abandoned then { s with tx := { s.tx with run := none } }
  else if r.atLast then
    let s := { s with tx := { s.tx with run := none } }
    match r.content with
    | .notice _ => { s with cab := { s.cab with queue := afterSent r.number s.cab.queue } }
    | .partStatus _ _ _ => s
  else { s with tx := { s.tx with run := some { r with index := r.index + 1 } } }

/-! ## Frames as received (R155) -/

/-- A Cab Block Segment while the cab is ONLINE, by its index (R159). -/
def takeSegment (data : List Byte) (s : State) : State :=
  if data.isEmpty then takeData data s
  else if u8 data 0 = 0 then takeFirst data s
  else takeData data s

/-- What only an ONLINE cab's frame does (R158, R159). -/
def ifCab (f : State → State) (s : State) : State := if s.cabOnline then f s else s

/-- A frame is taken by its kind (R155). -/
def takeFrame (kind : RxKind) (data : List Byte) (s : State) : State :=
  match kind with
  | .chassisStatus => takeChassis data s
  | .cabPresence => takePresence s
  | .cabRequest => ifCab (fun s => sendNext (takeCabBody data s)) s
  | .cabSegment => ifCab (takeSegment data) s

/-! ## The meanings -/

/-- CHASSIS_STATUS (R156). In PARKED every received frame is a wake event (R155). -/
def execChassisStatus (data : List Byte) (s : State) : Outcome State Fault Refusal :=
  .next (takeChassis data (wake s))

/-- FRESHNESS_TIMER_EXPIRY (R156). -/
def execFreshnessTimerExpiry (s : State) : Outcome State Fault Refusal :=
  .next (if due s.veh.freshT then settle (becomeStale s) else s)

/-- CAB_PRESENCE (R157); the content is disregarded (R182). -/
def execCabPresence (_data : List Byte) (s : State) : Outcome State Fault Refusal :=
  .next (takePresence (wake s))

/-- PRESENCE_TIMER_EXPIRY (R157). -/
def execPresenceTimerExpiry (s : State) : Outcome State Fault Refusal :=
  .next (if due s.cab.presenceT then settle (cabLost s) else s)

/-- FIRST_SEGMENT (R159, R160). -/
def execFirstSegment (data : List Byte) (s : State) : Outcome State Fault Refusal :=
  .next (ifCab (takeFirst data) (wake s))

/-- DATA_SEGMENT (R159, R160). -/
def execDataSegment (data : List Byte) (s : State) : Outcome State Fault Refusal :=
  .next (ifCab (takeData data) (wake s))

/-- GAP_TIMER_EXPIRY (R160). -/
def execGapTimerExpiry (s : State) : Outcome State Fault Refusal :=
  .next (match s.cab.staging with
    | some g => if g.gapT = 0 then failRun g .gap s else s
    | none => s)

/-- PART_STATUS_PERIOD_EXPIRY: a Part Status becomes due (R162). -/
def execPartStatusPeriodExpiry (s : State) : Outcome State Fault Refusal :=
  .next (if due s.tx.periodT then
    sendNext { s with tx := { s.tx with due := true, periodT := some partStatusMs } }
  else s)

/-- CAN_FRAME_TRANSMITTED (R161): a frame not acknowledged is sent again. -/
def execCanFrameTransmitted (acknowledged : Bool) (s : State) : Outcome State Fault Refusal :=
  .next (match s.tx.run with
    | some r => if acknowledged then sendNext (frameAcknowledged r s) else s
    | none => s)

/-- OTHER_IDENTIFIER_FRAME (R155): disregarded, but a wake event in PARKED; a frame whose identifier
is one of the received kinds is taken by that kind (log 6). -/
def execOtherIdentifierFrame (ident : CanIdent) (data : List Byte) (s : State) :
    Outcome State Fault Refusal :=
  .next (match rxKind s.cfg ident with
    | some kind => takeFrame kind data (wake s)
    | none => wake s)

end Sys2Proof.Machine
end

