-- ==== Sys2Proof/Machine/Dispatch.lean ====
section
/-! DEFINITION. The dispatch: one arm per command, each one direct call of its meaning. -/

namespace Sys2Proof.Machine

open Host

def exec (i : Instr) (s : State) : Host.Outcome State Fault Refusal :=
  match i with
  | .submit src block => Sys2Proof.Machine.execSubmit src block s
  | .cancel src slot => Sys2Proof.Machine.execCancel src slot s
  | .release src slot => Sys2Proof.Machine.execRelease src slot s
  | .clearFlag src slot => Sys2Proof.Machine.execClearFlag src slot s
  | .rerun src slot => Sys2Proof.Machine.execRerun src slot s
  | .resume src slot => Sys2Proof.Machine.execResume src slot s
  | .interrogate src slot => Sys2Proof.Machine.execInterrogate src slot s
  | .blockZone src zone => Sys2Proof.Machine.execBlockZone src zone s
  | .unblockZone src zone => Sys2Proof.Machine.execUnblockZone src zone s
  | .trafficPermitGrant src => Sys2Proof.Machine.execTrafficPermitGrant src s
  | .trafficPermitWithdraw src => Sys2Proof.Machine.execTrafficPermitWithdraw src s
  | .hold src level => Sys2Proof.Machine.execHold src level s
  | .releaseHold src => Sys2Proof.Machine.execReleaseHold src s
  | .emergencyReset src => Sys2Proof.Machine.execEmergencyReset src s
  | .clearFaults src map => Sys2Proof.Machine.execClearFaults src map s
  | .readStatus src => Sys2Proof.Machine.execReadStatus src s
  | .readConfiguration src part => Sys2Proof.Machine.execReadConfiguration src part s
  | .writeConfiguration src record => Sys2Proof.Machine.execWriteConfiguration src record s
  | .restart src battery => Sys2Proof.Machine.execRestart src battery s
  | .undecodableRequest src body => Sys2Proof.Machine.execUndecodableRequest src body s
  | .writeConfigurationCompletion => Sys2Proof.Machine.execWriteConfigurationCompletion s
  | .powerOn levels => Sys2Proof.Machine.execPowerOn levels s
  | .sensorSample axis flagged position => Sys2Proof.Machine.execSensorSample axis flagged position s
  | .sampleWatchdogExpiry axis => Sys2Proof.Machine.execSampleWatchdogExpiry axis s
  | .pumpPressureSample bar => Sys2Proof.Machine.execPumpPressureSample bar s
  | .latchSwitchChange door made => Sys2Proof.Machine.execLatchSwitchChange door made s
  | .channelChange channel closed => Sys2Proof.Machine.execChannelChange channel closed s
  | .discrepancyTimerExpiry => Sys2Proof.Machine.execDiscrepancyTimerExpiry s
  | .batteryMeasurement decivolts => Sys2Proof.Machine.execBatteryMeasurement decivolts s
  | .ignitionLineChange on => Sys2Proof.Machine.execIgnitionLineChange on s
  | .wakeLinePull => Sys2Proof.Machine.execWakeLinePull s
  | .reply frame => Sys2Proof.Machine.execReply frame s
  | .replyWindowExpiry => Sys2Proof.Machine.execReplyWindowExpiry s
  | .chassisStatus data => Sys2Proof.Machine.execChassisStatus data s
  | .freshnessTimerExpiry => Sys2Proof.Machine.execFreshnessTimerExpiry s
  | .cabPresence data => Sys2Proof.Machine.execCabPresence data s
  | .presenceTimerExpiry => Sys2Proof.Machine.execPresenceTimerExpiry s
  | .firstSegment data => Sys2Proof.Machine.execFirstSegment data s
  | .dataSegment data => Sys2Proof.Machine.execDataSegment data s
  | .gapTimerExpiry => Sys2Proof.Machine.execGapTimerExpiry s
  | .partStatusPeriodExpiry => Sys2Proof.Machine.execPartStatusPeriodExpiry s
  | .canFrameTransmitted acknowledged => Sys2Proof.Machine.execCanFrameTransmitted acknowledged s
  | .dwellTimerExpiry slot => Sys2Proof.Machine.execDwellTimerExpiry slot s
  | .releaseTimerExpiry zone => Sys2Proof.Machine.execReleaseTimerExpiry zone s
  | .permitTimerExpiry => Sys2Proof.Machine.execPermitTimerExpiry s
  | .preWarnTimerExpiry zone => Sys2Proof.Machine.execPreWarnTimerExpiry zone s
  | .startTimerExpiry => Sys2Proof.Machine.execStartTimerExpiry s
  | .runOnTimerExpiry => Sys2Proof.Machine.execRunOnTimerExpiry s
  | .pressureLossTimerExpiry => Sys2Proof.Machine.execPressureLossTimerExpiry s
  | .timeLimitExpiry => Sys2Proof.Machine.execTimeLimitExpiry s
  | .stallTimerExpiry => Sys2Proof.Machine.execStallTimerExpiry s
  | .latchTimerExpiry => Sys2Proof.Machine.execLatchTimerExpiry s
  | .settleTimerExpiry => Sys2Proof.Machine.execSettleTimerExpiry s
  | .rampTimerExpiry => Sys2Proof.Machine.execRampTimerExpiry s
  | .lampReading beacon milliamps => Sys2Proof.Machine.execLampReading beacon milliamps s
  | .flashEdge => Sys2Proof.Machine.execFlashEdge s
  | .standbyTimerExpiry => Sys2Proof.Machine.execStandbyTimerExpiry s
  | .pollEnd => Sys2Proof.Machine.execPollEnd s
  | .otherIdentifierFrame ident data => Sys2Proof.Machine.execOtherIdentifierFrame ident data s

end Sys2Proof.Machine
end

