-- ==== Sys2Proof/Machine/Ticks.lean ====
section
/-! DEFINITION. The passing of one millisecond (log 3): what a step does on an empty queue. Every
running timer loses one millisecond and stays at 0 until its expiry is taken as a command (log 4). -/

namespace Sys2Proof.Machine

/-- One millisecond of a stroke's timers; the elapsed stroke time counts while the time-limit timer
runs (R97). -/
def Stroke.tick (k : Stroke) : Stroke :=
  { k with
    elapsed := if k.limitT.isSome then k.elapsed + 1 else k.elapsed
    limitT := tickT k.limitT
    latchT := tickT k.latchT
    settleT := tickT k.settleT
    stallT := tickT k.stallT
    rampT := tickT k.rampT }

/-- One millisecond of the timers the Sequence Manager, the Zone Table and the Beacon Unit keep. -/
def tickBody (s : State) : State :=
  let slots := s.sm.slots.map fun (x : Slot) => { x with dwellT := tickT x.dwellT }
  let blocks := s.zt.blocks.map fun (b : ZoneBlocks) => { b with releaseT := tickT b.releaseT }
  let warns := s.bu.warns.map fun (w : Warn) => { w with preWarnT := tickT w.preWarnT }
  { s with
    sm := { s.sm with slots := slots }
    zt := { s.zt with blocks := blocks, permitT := tickT s.zt.permitT }
    bu := { s.bu with warns := warns, phase := (s.bu.phase + 1) % phaseSpan } }

/-- One millisecond of the timers of the pump, the sensors, the stroke and the loop. -/
def tickDrive (s : State) : State :=
  let arb := { s.arb with
    startT := tickT s.arb.startT, runOnT := tickT s.arb.runOnT, lossT := tickT s.arb.lossT }
  let sensors := s.sensors.map fun (x : Sensor) => { x with watchdog := tickT x.watchdog }
  { s with
    arb := arb
    sensors := sensors
    se := { s.se with stroke := s.se.stroke.map Stroke.tick }
    loop := { s.loop with discT := tickT s.loop.discT } }

/-- One millisecond of the timers of the links and of the power state. -/
def tickLinks (s : State) : State :=
  let staging := s.cab.staging.map fun (g : Staging) => { g with gapT := g.gapT - 1 }
  let current := s.poll.current.map fun (p : Poll) => { p with window := tickT p.window }
  { s with
    poll := { s.poll with current := current }
    veh := { s.veh with freshT := tickT s.veh.freshT }
    cab := { s.cab with presenceT := tickT s.cab.presenceT, staging := staging }
    tx := { s.tx with periodT := tickT s.tx.periodT }
    sup := { s.sup with standbyT := tickT s.sup.standbyT } }

/-- One millisecond passes. -/
def tick (s : State) : State :=
  { tickLinks (tickDrive (tickBody s)) with clock := s.clock + 1 }

end Sys2Proof.Machine
end

