-- ==== Sys2Proof/Safety.lean ====
section
/-! DEFINITION. The terms the statements use: where a request comes from, what the reactions that close
a command leave alone, how a slot's record stands after the end of its sequence, and the invariants of
the part. -/

namespace Sys2Proof.Machine

/-! ## Requests and their links -/

/-- The sender of a command that is a request; none for an event or an expiry. -/
def requestSender : Instr → Option Sender
  | .submit src _ => some src
  | .cancel src _ => some src
  | .release src _ => some src
  | .clearFlag src _ => some src
  | .rerun src _ => some src
  | .resume src _ => some src
  | .interrogate src _ => some src
  | .blockZone src _ => some src
  | .unblockZone src _ => some src
  | .trafficPermitGrant src => some src
  | .trafficPermitWithdraw src => some src
  | .hold src _ => some src
  | .releaseHold src => some src
  | .emergencyReset src => some src
  | .clearFaults src _ => some src
  | .readStatus src => some src
  | .readConfiguration src _ => some src
  | .writeConfiguration src _ => some src
  | .restart src _ => some src
  | .undecodableRequest src _ => some src
  | .writeConfigurationCompletion => none
  | .powerOn _ => none
  | .sensorSample _ _ _ => none
  | .sampleWatchdogExpiry _ => none
  | .pumpPressureSample _ => none
  | .latchSwitchChange _ _ => none
  | .channelChange _ _ => none
  | .discrepancyTimerExpiry => none
  | .batteryMeasurement _ => none
  | .ignitionLineChange _ => none
  | .wakeLinePull => none
  | .reply _ => none
  | .replyWindowExpiry => none
  | .chassisStatus _ => none
  | .freshnessTimerExpiry => none
  | .cabPresence _ => none
  | .presenceTimerExpiry => none
  | .firstSegment _ => none
  | .dataSegment _ => none
  | .gapTimerExpiry => none
  | .partStatusPeriodExpiry => none
  | .canFrameTransmitted _ => none
  | .dwellTimerExpiry _ => none
  | .releaseTimerExpiry _ => none
  | .permitTimerExpiry => none
  | .preWarnTimerExpiry _ => none
  | .startTimerExpiry => none
  | .runOnTimerExpiry => none
  | .pressureLossTimerExpiry => none
  | .timeLimitExpiry => none
  | .stallTimerExpiry => none
  | .latchTimerExpiry => none
  | .settleTimerExpiry => none
  | .rampTimerExpiry => none
  | .lampReading _ _ => none
  | .flashEdge => none
  | .standbyTimerExpiry => none
  | .pollEnd => none
  | .otherIdentifierFrame _ _ => none

/-- The station a request comes from. -/
def senderStation : Sender → StationId
  | .cab => 0
  | .crew c _ => stationOf c

/-- The link hands a request on to its owner: the cab is ONLINE and the part outside PARKED (R155, R158),
or the crew station is ONLINE and the number is not that of the last request taken (R150). A crew station's
request is handed on in PARKED too, with the reply to the Poll still in progress (DESIGN CHOICE, log 45). -/
def Reaches (src : Sender) (s : State) : Prop :=
  match src with
  | .cab => s.cabOnline = true ∧ s.parked = false
  | .crew c n => s.crew[c].link = .online ∧ s.crew[c].lastTaken ≠ n

/-- The state in which the owner finds a request that reaches it: a crew station's number has been
recorded (R150). -/
def requestTaken (src : Sender) (s : State) : State :=
  match src with
  | .cab => s
  | .crew c n => modCrew c (fun x => { x with lastTaken := n }) s

/-- What the link does after the owner has dealt with a request: the Chassis Port sends the answer
when its transmitter is free (R161). -/
def linkClosed (src : Sender) (s : State) : State :=
  match src with
  | .cab => sendNext s
  | .crew _ _ => s

/-- The state after a request that only its answer follows (R41, R150, R161). -/
def answered (src : Sender) (kind : Byte) (code : Code) (r : Result) (s : State) : State :=
  linkClosed src (answer (senderStation src) kind code r (requestTaken src s))

/-- The command is a frame on the CAN bus: a request of the cab, or one of the other received frames
(R155). -/
def canFrame (c : Instr) : Bool :=
  match c with
  | .chassisStatus _ => true
  | .cabPresence _ => true
  | .firstSegment _ => true
  | .dataSegment _ => true
  | .otherIdentifierFrame _ _ => true
  | _ => requestSender c == some .cab

/-! ## What the reactions leave alone -/

/-- The fields no reaction writes are those of `s`: the model's own counters, the Block Sets and
Position States, the hold level, the sensors, the phase of the beacons, the loop, the Polls, the vehicle,
the presence timer and the staging buffer, the Part Status period, the supply with its start times, the
lines, the record in force and the store, the link side of each crew station, and the lamps. -/
structure Keeps (s t : State) : Prop where
  pending : t.pending = s.pending
  clock : t.clock = s.clock
  free : t.free = s.free
  blocks : t.zt.blocks = s.zt.blocks
  position : t.zt.position = s.zt.position
  hold : t.arb.hold = s.arb.hold
  sensors : t.sensors = s.sensors
  phase : t.bu.phase = s.bu.phase
  loop : t.loop = s.loop
  poll : t.poll = s.poll
  veh : t.veh = s.veh
  presenceT : t.cab.presenceT = s.cab.presenceT
  staging : t.cab.staging = s.cab.staging
  periodT : t.tx.periodT = s.tx.periodT
  supply : t.sup.supply = s.sup.supply
  belowNormal : t.sup.belowNormal = s.sup.belowNormal
  belowExh : t.sup.belowExh = s.sup.belowExh
  aboveExh : t.sup.aboveExh = s.sup.aboveExh
  aboveNormal : t.sup.aboveNormal = s.sup.aboveNormal
  lines : t.lines = s.lines
  cfg : t.cfg = s.cfg
  store : t.store = s.store
  link : ∀ c : CrewId, t.crew[c].link = s.crew[c].link
  miss : ∀ c : CrewId, t.crew[c].miss = s.crew[c].miss
  good : ∀ c : CrewId, t.crew[c].good = s.crew[c].good
  enable : ∀ c : CrewId, t.crew[c].enable = s.crew[c].enable
  lastTaken : ∀ c : CrewId, t.crew[c].lastTaken = s.crew[c].lastTaken
  lamp : ∀ b : BeaconId, t.bu.beacons[b].lamp = s.bu.beacons[b].lamp
  low : ∀ b : BeaconId, t.bu.beacons[b].low = s.bu.beacons[b].low
  goodReads : ∀ b : BeaconId, t.bu.beacons[b].good = s.bu.beacons[b].good

/-- A slot that neither waits for the grant nor holds it. -/
def Slot.inert (x : Slot) : Bool :=
  x.state == .free || x.state == .paused || x.state == .dwelling || x.state == .completed

/-- A notice queue after further notices were placed: they stand behind the old ones, of which the
oldest are dropped only as others come (R151, R161). -/
def QueueGrown (q r : List (Byte × Notice)) : Prop :=
  ∃ (k : Nat) (l : List (Byte × Notice)), r = q.drop k ++ l ∧ (l = [] → k = 0)

/-- Drive-Off is not entered at the end of an event: the part is in it already, or the road speed it
reads is under 3 km/h (R62). -/
def NoDriveOffEntry (s : State) : Prop := s.zt.driveOff = true ∨ roadSpeed s < driveOffSpeed

/-- The grant rule gives no grant at the end of an event, and no stroke is stopped: nothing waits, or
the grant is held and its holder is not stopped by Drive-Off. -/
def Steady (s : State) : Prop :=
  (s.arb.holder = none ∧ s.sm.queue = [])
    ∨ ∃ i, s.arb.holder = some i ∧ ((s.slot i).state ≠ .active ∨ NoDriveOffEntry s)

/-- What the reactions that close a command leave of the state `s` the command made. -/
structure Settled (s t : State) : Prop extends Keeps s t where
  /-- A slot that neither waits for the grant nor holds it is left alone. -/
  inert : ∀ j : SlotId, (s.slot j).inert = true →
    t.slot j = s.slot j ∧ (j ∈ t.sm.queue ↔ j ∈ s.sm.queue)
  /-- Only NOTICES_LOST can be set. -/
  flags : ∀ f : Flag, (∀ st, f ≠ .noticesLost st) → flagIn t.faults f = flagIn s.faults f
  /-- No flag is cleared. -/
  raised : ∀ f : Flag, flagIn s.faults f = true → flagIn t.faults f = true
  /-- The pump neither enters nor leaves FAULT. -/
  pumpFault : t.arb.pump = .fault ↔ s.arb.pump = .fault
  /-- The traffic permit ends only at an entry into Drive-Off. -/
  permit : NoDriveOffEntry s → t.zt.permitT = s.zt.permitT
  /-- Notices are only added. -/
  crewQueue : ∀ c : CrewId, QueueGrown s.crew[c].queue t.crew[c].queue
  /-- Notices are only added. -/
  cabQueue : QueueGrown s.cab.queue t.cab.queue
  /-- Where the grant rule has nothing to do, the slots, the grant, the pump, the stroke, the notices
  and the Fault Summary are left alone. -/
  steady : Steady s → t.sm = s.sm ∧ t.arb = s.arb ∧ t.se = s.se ∧ t.crew = s.crew ∧ t.cab = s.cab
    ∧ t.faults = s.faults ∧ t.sup = s.sup

/-! ## The record after the end of a sequence -/

/-- The slot record after the end of its sequence (R37, R39): FREE for ONCE; COMPLETED with the flag
set, the cause and the step index at end for HELD and CYCLE. -/
def endedRecord (cause : EndCause) (wait : Option WaitReason) (x : Slot) : Slot :=
  if x.block.rep = .once then Slot.empty
  else { x with
    state := .completed
    flag := true
    pauseCause := none
    ownerLost := false
    interrupted := false
    lastEnd := some cause
    endStep := some x.step
    run := { x.run with wait := wait }
    dwellT := none }

/-! ## Steps that begin and complete -/

/-- The notice queues of `u` are those of `t`. -/
def SameNotices (t u : State) : Prop := u.crew = t.crew ∧ u.cab = t.cab

/-- `s` after the "paused" notice about a slot, with record `x`: to its owner, and to its confirm station
where that is another one (R27, R47). -/
def toldPaused (i : SlotId) (x : Slot) (cause : PauseCause) (s : State) : State :=
  let n : Notice := .progress i x.block.tag x.step (.paused cause)
  let owner := place x.owner n s
  match x.block.confirm with
  | none => owner
  | some c => if stationOf c = x.owner then owner else place (stationOf c) n owner

/-- `s` after the "step started" notice that a step with N sends to the owner of its slot (R27, R47). -/
def toldStarted (i : SlotId) (x : Slot) (st : Step) (s : State) : State :=
  if st.notify then place x.owner (.progress i x.block.tag x.step .stepStarted) s else s

/-- Step `st` of a slot becomes current in `s`, with the slot's record `x` at that step's index, and `u`
is what comes of it by the first matching case of R27: the slot pauses for its lost owner, or for P, or a
MOVE is queued, at the front of its Class where it is chained, or the timer of a DWELL starts. -/
def StepBegins (s : State) (i : SlotId) (x : Slot) (st : Step) (chained : Bool) (u : State) : Prop :=
  (x.ownerLost = true →
    u.slot i = { x with
      state := .paused, pauseCause := some .ownerLost, ownerLost := false, interrupted := false }
    ∧ u.sm.queue = s.sm.queue ∧ SameNotices (toldPaused i x .ownerLost s) u)
  ∧ (x.ownerLost = false → st.pause = true →
    u.slot i = { x with state := .paused, pauseCause := some .step, interrupted := false }
    ∧ u.sm.queue = s.sm.queue ∧ SameNotices (toldPaused i x .step s) u)
  ∧ (x.ownerLost = false → st.pause = false → st.action = .move →
    u.slot i = { x with state := .queued, pauseCause := none, interrupted := false }
    ∧ u.sm.queue = (if chained then insertFront s i s.sm.queue else s.sm.queue ++ [i])
    ∧ SameNotices (toldStarted i x st s) u)
  ∧ (x.ownerLost = false → st.pause = false → st.action = .dwell →
    u.slot i = { x with
      state := .dwelling, pauseCause := none, interrupted := false, dwellT := some (st.dwell * 100) }
    ∧ u.sm.queue = s.sm.queue ∧ SameNotices (toldStarted i x st s) u)

/-- Step `st` of a slot completes normally in `s`, with the slot's record `x`, and `u` is what comes of
it (R32, R40): a last step not CYCLE ends the sequence NORMAL with the pass counted; after a chained step
the next one becomes current; at a CYCLE pass end with the flag still set the sequence ends
PASS_UNCLEARED, and else the flag is set, the owner is told, and step 1 becomes current. -/
def StepCompletes (s : State) (i : SlotId) (x : Slot) (st : Step) (u : State) : Prop :=
  (st.chain = false → x.block.rep ≠ .cycle →
    u.slot i = endedRecord .normal none { x with passCount := min 65535 (x.passCount + 1) })
  ∧ (∀ nxt, st.chain = true → x.nextStep = some nxt →
    StepBegins s i { x with step := x.step + 1 } nxt true u)
  ∧ (st.chain = false → x.block.rep = .cycle → x.flag = true →
    u.slot i = endedRecord .passUncleared none { x with passCount := min 65535 (x.passCount + 1) })
  ∧ (∀ first, st.chain = false → x.block.rep = .cycle → x.flag = false →
    x.block.steps.head? = some first →
    StepBegins
      (place x.owner (.progress i x.block.tag x.step (.passEnded (min 65535 (x.passCount + 1)))) s)
      i { x with flag := true, passCount := min 65535 (x.passCount + 1), step := 1 } first false u)

/-- The record of a slot whose grant is released: its completion record takes the axis of the step and
that axis's last VALID position (R38, R78). -/
def withLastMove (s : State) (x : Slot) : Slot :=
  { x with run := { x.run with
    lastMove := (x.curAxis.map fun a => (a, s.sensors[a].last)).or x.run.lastMove } }

/-- The record of a slot after a shortfall that the A flag covers (R6, R32). -/
def withShortfall (x : Slot) : Slot :=
  { x with run := { x.run with acceptShort := min 255 (x.run.acceptShort + 1) } }

/-! ## Strokes -/

/-- The stroke record of a controlled stop as it begins (R114): the other timers are discarded, and the
ramp starts from the level in DRIVING, or from 0. -/
def stoppingStroke (s : State) (k : Stroke) : Stroke :=
  { k with
    phase := .stopping
    limitT := none
    latchT := none
    settleT := none
    stallT := none
    rampLevel := if k.phase = .driving then s.se.drives[k.axis].level else 0
    rampT := some (s.axisCfg k.axis).ts }

/-- A sample shows the stroke past its target or the axis outside its envelope, by more than Tb (R105). -/
def OverAt (c : AxisCfg) (k : Stroke) (p : Nat) : Prop :=
  toGo k.dir k.t p < -(c.tb : Int) ∨ p + c.tb < c.elo ∨ c.ehi + c.tb < p

/-- A sample shows the stroke within Tb of its target (R105). -/
def ArrivedAt (c : AxisCfg) (k : Stroke) (p : Nat) : Prop :=
  -(c.tb : Int) ≤ toGo k.dir k.t p ∧ toGo k.dir k.t p ≤ (c.tb : Int)

/-- The figures of a stroke that a step of a slot starts on an axis from position `p` (R99, R100, R102,
R111): S, T, D, d and Vc, the join test, the windows in effect, E and L. -/
structure StrokeFigures (s : State) (x : Slot) (st : Step) (a : AxisId) (joined : Bool) (p : Nat)
    (k : Stroke) : Prop where
  axis : k.axis = a
  step : k.step = x.step
  started : k.started = true
  from_ : k.s = p
  target : k.t = st.target
  dist : k.dist = gapOf st.target p
  dir : k.dir = (if p < st.target then .extend else .retract)
  ceiling : k.vc = (if s.sup.supply = .normal then classCeiling (s.axisCfg a) st.speed
    else (s.axisCfg a).creep)
  takenOver : k.takenOver = joined
  noJoin : k.join = .none ↔ st.join = false
  joins : k.join = .pending ↔ st.join = true ∧ ∃ nxt, x.nextStep = some nxt
    ∧ joinTest k.dir st.target nxt.target (s.axisCfg a).tb = true
  windows : (k.ws, k.we) = effectiveWindows (if joined then 0 else (s.axisCfg a).ws)
    (if k.join = .pending then 0 else (s.axisCfg a).we) k.dist
  expected : k.expected = expectedTime (s.axisCfg a) k.vc k.ws k.we k.dist
  limit : k.limit = max 300 (min 60000 (k.expected * s.cfg.margin / 100 + s.cfg.grace))

/-- The stroke `k` of a slot's step on an axis has started at that axis's last VALID position (R99, R110):
a door that leaves Home with its latch made waits for it, with its solenoid energised; any other stroke
drives, with its valve, its level and its time-limit timer set. -/
def StrokeBegins (s : State) (i : SlotId) (st : Step) (a : AxisId) (k : Stroke) (t : State) : Prop :=
  t.se.stroke = some k ∧ k.slot = i ∧ StrokeFigures s (s.slot i) st a false (s.lastPos a) k
    ∧ (if (s.axisCfg a).latch = true ∧ near k.s (s.axisCfg a).home (s.axisCfg a).tb = true
          ∧ towardHome k.s k.t (s.axisCfg a).home (s.axisCfg a).tb = false ∧ s.latchMade a = true then
        k.phase = .latchWait ∧ k.latchT = some 500
        ∧ t.se.drives = s.se.drives.set a { s.se.drives[a] with solenoid := true }
      else
        k.phase = .driving ∧ k.limitT = some k.limit ∧ k.elapsed = 0 ∧ k.latchT = none
        ∧ t.se.drives = s.se.drives.set a { level := driveLevel (s.axisCfg a) k k.s
                                            valve := valveFor k.dir, solenoid := false })

/-- The figures of a running stroke clamped to the CREEP ceiling at the axis's last VALID position: the
soft-start window is 0, and the travel, the windows, E and L are those of what remains (R103). -/
def clampedStroke (s : State) (k : Stroke) : Stroke :=
  let c := s.axisCfg k.axis
  let p := s.lastPos k.axis
  let w := effectiveWindows 0 (if k.join = .pending then 0 else c.we) (gapOf k.t p)
  let e := expectedTime c c.creep w.1 w.2 (gapOf k.t p)
  let limit := max 300 (min 60000 (e * s.cfg.margin / 100 + s.cfg.grace))
  { k with
    s := p, dist := gapOf k.t p, vc := c.creep, ws := w.1, we := w.2
    expected := e, limit := limit, limitT := some limit, elapsed := 0 }

/-! ## The supply -/

/-- A condition with this start time has held for 2000 ms at a measurement (R164). -/
def Held (now : Nat) (start : Option Nat) : Prop := ∃ t0, start = some t0 ∧ t0 + 2000 ≤ now

/-! ## Polls -/

/-- Station `c` is the next of a round in `t`, after station `last`: the lowest above it that is not
ABSENT, or where none is left the lowest of all (R146). -/
def NextOfRound (t : State) (last : Option CrewId) (c : CrewId) : Prop :=
  t.crew[c].link ≠ .absent
    ∧ ((∃ l, last = some l ∧ l < c ∧ ∀ d : CrewId, l < d → d < c → t.crew[d].link = .absent)
      ∨ ((∀ (l d : CrewId), last = some l → l < d → t.crew[d].link = .absent)
        ∧ ∀ d : CrewId, d < c → t.crew[d].link = .absent))

/-- The Poll that follows a judgement in `t`, when the Poll judged was to station `last`: it goes to the
next station of the round with the status summary, the last request taken and the notice at the head of
the queue, as they stand (R146, R152); none is sent in PARKED or where every station is ABSENT (R146,
R153). -/
def PollFollows (last : Option CrewId) (t : State) : Prop :=
  (t.parked = true → t.poll.current = none)
  ∧ ((∀ c : CrewId, t.crew[c].link = .absent) → t.poll.current = none)
  ∧ (∀ c : CrewId, t.parked = false → NextOfRound t last c →
      t.poll = { current := some { station := c, summary := summaryOf t
                                   lastTaken := t.crew[c].lastTaken
                                   notice := t.crew[c].queue.head?, window := none }
                 last := some c })

/-! ## Invariants -/

/-- No notice queue holds more than its bound: 4 for a crew station (R151), 8 for the cab (R161). -/
def NoticeInv (s : State) : Prop :=
  (∀ c : CrewId, s.crew[c].queue.length ≤ crewQueueMax) ∧ s.cab.queue.length ≤ cabQueueMax

/-- The two laws of R17: no station owns more than 4 non-FREE slots, and no two non-FREE slots of one
owner carry the same Tag. -/
def OwnerInv (s : State) : Prop :=
  (∀ st : StationId, ownedCount s st ≤ stationSlotMax)
    ∧ ∀ i j : SlotId, (s.slot i).state ≠ .free → (s.slot j).state ≠ .free →
      (s.slot i).owner = (s.slot j).owner → (s.slot i).block.tag = (s.slot j).block.tag → i = j

/-- The Request Queue and the Slot Table agree: every QUEUED slot stands in the queue exactly once,
and no other slot stands in it (R23). -/
def QueueInv (s : State) : Prop :=
  s.sm.queue.Nodup ∧ ∀ i : SlotId, i ∈ s.sm.queue ↔ (s.slot i).state = .queued

/-- The grant, the stroke and the Slot Table agree: a slot holds the grant exactly while it is ACTIVE
or STOPPING (R21, R74), and there is a stroke exactly while the grant is held, for its holder (R97). -/
def GrantInv (s : State) : Prop :=
  (∀ i : SlotId, s.arb.holder = some i ↔ ((s.slot i).state = .active ∨ (s.slot i).state = .stopping))
    ∧ s.se.stroke.map (·.slot) = s.arb.holder

/-- A dwell timer runs only for a DWELLING slot (R21). -/
def DwellInv (s : State) : Prop :=
  ∀ i : SlotId, (s.slot i).dwellT.isSome = true → (s.slot i).state = .dwelling

/-- An axis is driven, or its valve stands off neutral, only as the axis of the running stroke
(R104). -/
def DriveInv (s : State) : Prop :=
  ∀ a : AxisId, (∀ k, s.se.stroke = some k → k.axis ≠ a) → s.se.drives[a] = Drive.rest

/-- While the loop is not READY every slot is FREE or COMPLETED (R49), and the discrepancy timer runs
only in TRIPPED (R131, R133). -/
def LoopInv (s : State) : Prop :=
  (s.loop.state ≠ .ready → ∀ i : SlotId, (s.slot i).state = .free ∨ (s.slot i).state = .completed)
    ∧ (s.loop.discT.isSome = true → s.loop.state = .tripped)

/-- The invariant of the slots, the grant and the strokes. -/
def MotionInv (s : State) : Prop :=
  QueueInv s ∧ GrantInv s ∧ DwellInv s ∧ DriveInv s ∧ LoopInv s

end Sys2Proof.Machine
end

