-- ==== Sys2Proof/Certificates/Slice0/Obligations.lean ====
section
/-! DEFINITION. The statements for the provers: `def Obligations.<Name> : Prop`. A command's own effect
is written out; `Settled u t` says what the reactions that close the command leave of the state `u`
that the effect makes. An expiry acts once the duration of its timer has passed, and until then it
changes nothing (log 4). -/

open Sys2Proof
open Sys2Proof.Machine

/-! ## The step and every command -/

/-- With commands waiting, a step is `exec` of the front command on the state with the rest. -/
def Obligations.StepRunsTheFrontCommand : Prop :=
  ∀ (s : State) (c : Instr) (rest : List Instr), s.pending = c :: rest →
    step s = exec c { s with pending := rest }

/-- With no command waiting one millisecond passes (DESIGN CHOICE, logs 3 and 4): the clock and the
phase count, every running timer loses one millisecond, and nothing else changes. -/
def Obligations.StepOnAnEmptyQueuePassesOneMillisecond : Prop :=
  ∀ s : State, s.pending = [] → ∃ t, step s = .next t
    ∧ t.pending = [] ∧ t.clock = s.clock + 1 ∧ t.free = s.free
    ∧ (∀ i, t.slot i = { s.slot i with dwellT := (s.slot i).dwellT.map (· - 1) })
    ∧ t.sm.queue = s.sm.queue
    ∧ (∀ z : ZoneId, t.zt.blocks[z]
        = { s.zt.blocks[z] with releaseT := s.zt.blocks[z].releaseT.map (· - 1) })
    ∧ t.zt = { s.zt with blocks := t.zt.blocks, permitT := s.zt.permitT.map (· - 1) }
    ∧ t.arb = { s.arb with startT := s.arb.startT.map (· - 1), runOnT := s.arb.runOnT.map (· - 1),
                           lossT := s.arb.lossT.map (· - 1) }
    ∧ (∀ a : AxisId, t.sensors[a]
        = { s.sensors[a] with watchdog := s.sensors[a].watchdog.map (· - 1) })
    ∧ t.se.drives = s.se.drives
    ∧ t.se.stroke = s.se.stroke.map (fun k =>
        { k with elapsed := if k.limitT.isSome then k.elapsed + 1 else k.elapsed
                 limitT := k.limitT.map (· - 1), latchT := k.latchT.map (· - 1)
                 settleT := k.settleT.map (· - 1), stallT := k.stallT.map (· - 1)
                 rampT := k.rampT.map (· - 1) })
    ∧ (∀ z : ZoneId, t.bu.warns[z]
        = { s.bu.warns[z] with preWarnT := s.bu.warns[z].preWarnT.map (· - 1) })
    ∧ t.bu = { s.bu with warns := t.bu.warns, phase := (s.bu.phase + 1) % 12000 }
    ∧ t.loop = { s.loop with discT := s.loop.discT.map (· - 1) }
    ∧ t.faults = s.faults ∧ t.crew = s.crew
    ∧ t.poll = { s.poll with current := s.poll.current.map (fun p =>
        { p with window := p.window.map (· - 1) }) }
    ∧ t.veh = { s.veh with freshT := s.veh.freshT.map (· - 1) }
    ∧ t.cab = { s.cab with
        presenceT := s.cab.presenceT.map (· - 1)
        staging := s.cab.staging.map (fun g => { g with gapT := g.gapT - 1 }) }
    ∧ t.tx = { s.tx with periodT := s.tx.periodT.map (· - 1) }
    ∧ t.sup = { s.sup with standbyT := s.sup.standbyT.map (· - 1) }
    ∧ t.lines = s.lines ∧ t.cfg = s.cfg ∧ t.store = s.store

/-- Every command completes: it answers a next state, in which the commands waiting and the clock
are as they were. -/
def Obligations.EveryCommandAnswersANextState : Prop :=
  ∀ (c : Instr) (s : State), ∃ t, exec c s = .next t ∧ t.pending = s.pending ∧ t.clock = s.clock

/-- The record in force and the stored bytes change only by the completion of a Write Configuration,
a power-on, or a Restart (which a raw request or frame of the cab may carry). -/
def Obligations.ConfigurationChangesOnlyByWriteOrStartUp : Prop :=
  ∀ (c : Instr) (s t : State), exec c s = .next t →
    (t.cfg ≠ s.cfg ∨ t.store.bytes ≠ s.store.bytes) →
    c = .writeConfigurationCompletion ∨ (∃ l, c = .powerOn l) ∨ (∃ b, c = .restart .cab b)
      ∨ (∃ body, c = .undecodableRequest .cab body) ∨ (∃ ident d, c = .otherIdentifierFrame ident d)

/-! ## Invariants -/

/-- The reset state meets the three invariants. -/
def Obligations.ResetMeetsTheInvariants : Prop :=
  NoticeInv State.reset ∧ OwnerInv State.reset ∧ MotionInv State.reset

/-- Every step keeps the bounds of the notice queues: 4 for a crew station, 8 for the cab. -/
def Obligations.StepKeepsNoticeBounds : Prop :=
  ∀ s t : State, NoticeInv s → step s = .next t → NoticeInv t

/-- Every step keeps the agreement of the Request Queue, the grant, the stroke, the dwell timers,
the drives and the loop with the Slot Table. -/
def Obligations.StepKeepsMotionInvariant : Prop :=
  ∀ s t : State, MotionInv s → step s = .next t → MotionInv t

/-- Every step keeps the two laws of R17, in a state whose slots, grant and strokes agree. -/
def Obligations.StepKeepsOwnerLaws : Prop :=
  ∀ s t : State, MotionInv s → OwnerInv s → step s = .next t → OwnerInv t

/-! ## Links -/

/-- A request that its link does not hand on changes nothing: the cab is not ONLINE, the crew
station is not ONLINE, or the number is that of the last request taken. -/
def Obligations.RequestNotHandedOnChangesNothing : Prop :=
  ∀ (c : Instr) (src : Sender) (s : State), requestSender c = some src → s.parked = false →
    ¬ Reaches src s → exec c s = .next s

/-- In PARKED a received frame, a change of a loop channel or of a latch switch, and a pull on the wake
line wake the part: RUN where its condition holds, else STANDBY with its timer; a new round of Polls,
whose first goes to the lowest station that is not ABSENT; a Part Status due at once, which a free
transmitter begins, its count rising as the run begins (DESIGN CHOICE, log 44), and its period running;
the watchdog of each VALID sensor. A Poll still in progress is left to be judged, and the new round begins
after it (DESIGN CHOICE, log 32). The slots, the zones, the grant, the loop, the notices and the record
are left alone, and the frame or change is then taken as outside PARKED. Outside PARKED the wake line has
no effect. -/
def Obligations.WakeLeavesParkedBeforeTheFrame : Prop :=
  ∀ s : State,
    (∀ c : Instr, s.parked = true → canFrame c = true → exec c s = exec c (wake s))
    ∧ (∀ ch closed, s.loop.reading ch ≠ closed →
        exec (.channelChange ch closed) s = exec (.channelChange ch closed) (wake s))
    ∧ (∀ (d : DoorId) made, s.lines.latchMade[d] ≠ made →
        exec (.latchSwitchChange d made) s = exec (.latchSwitchChange d made) (wake s))
    ∧ exec .wakeLinePull s = .next (wake s)
    ∧ (s.parked = false → wake s = s)
    ∧ (s.parked = true →
        (wake s).sup = { s.sup with
            power := if runCondition s then .run else .standby
            standbyT := if runCondition s then none else some 600000 }
        ∧ (s.poll.current = none → PollFollows none (wake s))
        ∧ (s.poll.current ≠ none → (wake s).poll = { s.poll with last := none })
        ∧ (s.tx.run = none → (wake s).tx = { s.tx with
            run := some (TxRun.mk (.partStatus (summaryOf (wake s)) s.zt.driveOff s.faults) s.tx.count
              s.cfg.canBase 0 false)
            due := false, count := s.tx.count + 1, periodT := some 200 })
        ∧ (s.tx.run ≠ none → (wake s).tx = { s.tx with due := true, periodT := some 200 })
        ∧ (∀ a : AxisId, (wake s).sensors[a] = { s.sensors[a] with
            watchdog := if s.sensors[a].state = .valid then some 50 else s.sensors[a].watchdog })
        ∧ (wake s).sm = s.sm ∧ (wake s).zt = s.zt ∧ (wake s).arb = s.arb ∧ (wake s).se = s.se
        ∧ (wake s).loop = s.loop ∧ (wake s).faults = s.faults ∧ (wake s).crew = s.crew
        ∧ (wake s).veh = s.veh ∧ (wake s).cab = s.cab ∧ (wake s).lines = s.lines
        ∧ (wake s).cfg = s.cfg ∧ (wake s).store = s.store)

/-- A notice for an ONLINE station stands behind the others under the next number; a full queue, 4
for a crew station and 8 for the cab, drops its oldest, and NOTICES_LOST of the station is set. A
notice for a station that is not ONLINE is discarded. -/
def Obligations.NoticeIsQueuedOrDiscarded : Prop :=
  ∀ (n : Notice) (s : State),
    (∀ c : CrewId, s.crew[c].link = .online →
      (place (stationOf c) n s).crew[c] = { s.crew[c] with
        queue := (if s.crew[c].queue.length < 4 then s.crew[c].queue else s.crew[c].queue.tail)
          ++ [(s.crew[c].nextNum, n)]
        nextNum := s.crew[c].nextNum + 1 }
      ∧ (∀ d : CrewId, d ≠ c → (place (stationOf c) n s).crew[d] = s.crew[d])
      ∧ (place (stationOf c) n s).faults
        = (if s.crew[c].queue.length < 4 then s.faults
           else s.faults ||| (1#32 <<< (20 + c.val)))
      ∧ place (stationOf c) n s = { s with
        crew := (place (stationOf c) n s).crew, faults := (place (stationOf c) n s).faults })
    ∧ (∀ c : CrewId, s.crew[c].link ≠ .online → place (stationOf c) n s = s)
    ∧ (s.cabOnline = false → place 0 n s = s)
    ∧ (s.cabOnline = true → s.cab.queue.length < 8 →
        place 0 n s = { s with cab := { s.cab with
          queue := s.cab.queue ++ [(s.cab.next, n)], next := s.cab.next + 1 } })
    ∧ (s.cabOnline = true → 8 ≤ s.cab.queue.length →
        (place 0 n s).cab = { s.cab with
            queue := s.cab.queue.tail ++ [(s.cab.next, n)], next := s.cab.next + 1 }
        ∧ (place 0 n s).faults = s.faults ||| (1#32 <<< 19)
        ∧ (place 0 n s).crew = s.crew ∧ (place 0 n s).sm = s.sm)

/-! ## Submit -/

/-- An accepted block keeps the shape and the ranges the checks promise: 1 to 24 steps; every step
but the last chained; each MOVE and CHECK on a present axis with its Target within Elo to Ehi; each
DWELL of 1 to 600. Its slot is the lowest FREE one, the loop is READY, and the sender's limits hold.
-/
def Obligations.AcceptedBlockIsSound : Prop :=
  ∀ (st : StationId) (bytes : List Byte) (s : State) (i : SlotId),
    submitOutcome s st bytes = .inr i →
    (s.slot i).state = .free ∧ (∀ j < i, (s.slot j).state ≠ .free)
    ∧ s.loop.state = .ready ∧ s.store.fault = false ∧ s.store.programming = none
    ∧ ownedCount s st < 4
    ∧ (∀ j, (s.slot j).state ≠ .free → (s.slot j).owner = st →
        (s.slot j).block.tag ≠ (storedBlock bytes).tag)
    ∧ 1 ≤ (storedBlock bytes).steps.length ∧ (storedBlock bytes).steps.length ≤ 24
    ∧ ∀ (k : Nat) (x : Machine.Step), (storedBlock bytes).steps[k]? = some x →
        (x.chain = true ↔ k + 1 < (storedBlock bytes).steps.length)
        ∧ (x.action = .dwell → 1 ≤ x.dwell ∧ x.dwell ≤ 600)
        ∧ (x.action ≠ .dwell → ∃ a : AxisId, x.axis = a.val + 1 ∧ (s.axisCfg a).present = true
            ∧ (s.axisCfg a).elo ≤ x.target ∧ x.target ≤ (s.axisCfg a).ehi)

/-- A refused Submit changes nothing but the queue its refusal is placed in; the refusal carries the Tag
as received, 0 for a block too short, and the code and the index that the checks in their order give,
which is 0 for FORMAT, STEP_COUNT, CLASS and every resource refusal. An accepted one writes the slot,
places the answer OK with the slot and the Tag, and with step index 0 (DESIGN CHOICE, log 34), and makes
step 1 current; before that no other slot, and neither the queue, the grant nor the strokes, are changed.
-/
def Obligations.SubmitIsRefusedOrWritesTheSlot : Prop :=
  ∀ (src : Sender) (bytes : List Byte) (s : State), Reaches src s →
    (∀ code k, submitOutcome s (senderStation src) bytes = .inl (code, k) →
      exec (.submit src bytes) s
        = .next (answered src 1 code
            (.submit none (if bytes.length < 6 then 0 else bytes.getD 1 0) k) s)
      ∧ ((code = .format ∨ code = .stepCount ∨ code = .cls ∨ code = .stopped ∨ code = .busy
          ∨ code = .configFault ∨ code = .dupTag ∨ code = .stationLimit ∨ code = .noSlot) → k = 0))
    ∧ (∀ i, submitOutcome s (senderStation src) bytes = .inr i →
      ∃ u t, exec (.submit src bytes) s = .next t
        ∧ Settled (makeCurrent i false (answer (senderStation src) 1 .ok
            (.submit (some i) (submitTag bytes) 0) u)) t
        ∧ Keeps (requestTaken src s) u
        ∧ u.slot i = { Slot.empty with
            state := .paused, owner := senderStation src, block := storedBlock bytes, step := 1 }
        ∧ (∀ j, j ≠ i → u.slot j = s.slot j) ∧ u.sm.queue = s.sm.queue ∧ u.arb = s.arb
        ∧ u.se = s.se ∧ u.faults = s.faults)

/-! ## Steps and ends of sequences -/

/-- A step that becomes current acts by the first matching case of R27, for every kind of step: it pauses
for the lost owner, or for its P flag, and the owner and the confirm station are told; else a MOVE is
queued, a DWELL's timer starts, a CHECK that fails ends the sequence, and a CHECK that passes completes at
once. A step with N that starts tells the owner. -/
def Obligations.StepBecomesCurrent : Prop :=
  ∀ (i : SlotId) (chained : Bool) (s : State) (st : Machine.Step),
    (s.slot i).curStep = some st → s.arb.holder ≠ some i →
    Keeps s (makeCurrent i chained s)
    ∧ (∀ j, j ≠ i → (makeCurrent i chained s).slot j = s.slot j)
    ∧ StepBegins s i (s.slot i) st chained (makeCurrent i chained s)
    ∧ (∀ r, (s.slot i).ownerLost = false → st.pause = false → st.action = .check →
        checkReason s (s.slot i) st = some r →
        (makeCurrent i chained s).slot i = endedRecord .checkFailed (some r) (s.slot i))
    ∧ ((s.slot i).ownerLost = false → st.pause = false → st.action = .check →
        checkReason s (s.slot i) st = none →
        StepCompletes (toldStarted i (s.slot i) st s) i (s.slot i) st (makeCurrent i chained s))

/-- The end of a sequence: the slot leaves the queue, the grant is released if the slot holds it,
with the axis and its last VALID position in the completion record; the COMPLETION notice is placed
for the owner; and the slot is disposed of by its Repeat Mode. -/
def Obligations.SequenceEndDisposesOfTheSlot : Prop :=
  ∀ (i : SlotId) (cause : EndCause) (wait : Option WaitReason) (s : State) (x : Slot),
    x = (if s.arb.holder = some i then { s.slot i with run := { (s.slot i).run with
          lastMove := ((s.slot i).curAxis.map fun a => (a, s.sensors[a].last)).or
            (s.slot i).run.lastMove } }
        else s.slot i) →
    (seqEnd i cause wait s).slot i = endedRecord cause wait x
    ∧ (∀ j, j ≠ i → (seqEnd i cause wait s).slot j = s.slot j)
    ∧ (seqEnd i cause wait s).sm.queue = s.sm.queue.filter (· != i)
    ∧ (seqEnd i cause wait s).arb
        = { s.arb with holder := if s.arb.holder = some i then none else s.arb.holder }
    ∧ (seqEnd i cause wait s).crew = (place x.owner (.completion
        { slot := i, owner := x.owner, tag := x.block.tag, cause := cause, endStep := x.step,
          passCount := x.passCount, run := { x.run with wait := wait } }) s).crew
    ∧ (seqEnd i cause wait s).cab = (place x.owner (.completion
        { slot := i, owner := x.owner, tag := x.block.tag, cause := cause, endStep := x.step,
          passCount := x.passCount, run := { x.run with wait := wait } }) s).cab
    ∧ Keeps s (seqEnd i cause wait s)

/-- An entry at the front of its Class stands immediately before the earliest entry of that Class,
or at the tail where there is none. -/
def Obligations.FrontOfClassInsertion : Prop :=
  ∀ (s : State) (i : SlotId) (q : List SlotId),
    ∃ front back, q = front ++ back ∧ insertFront s i q = front ++ i :: back
      ∧ (∀ j ∈ front, (s.slot j).block.cls ≠ (s.slot i).block.cls)
      ∧ (∀ j, back.head? = some j → (s.slot j).block.cls = (s.slot i).block.cls)

/-! ## Requests on slots -/

/-- A request on a slot whose number lies outside 1 to 12, or, but for Interrogate, on a FREE slot, is
refused BAD_SLOT (Rerun and Resume after their tests of the loop and of CONFIG_FAULT). Cancel, Release and
Clear Flag from a station that is neither the owner nor the cab, and Resume from one that is not the confirm
station either, are refused NOT_OWNER; Cancel of a COMPLETED slot and Resume of one that is not PAUSED,
WRONG_STATE; Resume in CONFIG_FAULT, CONFIG_FAULT. A request that cannot be decoded is answered BAD_REQUEST
with its kind byte. Only the answer is placed. -/
def Obligations.RefusedRequestOnlyAnswers : Prop :=
  ∀ (src : Sender) (n : Byte) (s : State), Reaches src s →
    ((n = 0 ∨ 12 < n.toNat) →
      exec (.cancel src n) s = .next (answered src 2 .badSlot (.slot n none) s)
      ∧ exec (.release src n) s = .next (answered src 3 .badSlot (.slot n none) s)
      ∧ exec (.clearFlag src n) s = .next (answered src 4 .badSlot (.slot n none) s)
      ∧ exec (.interrogate src n) s = .next (answered src 7 .badSlot (.slot n none) s)
      ∧ (s.store.fault = false →
          exec (.resume src n) s = .next (answered src 6 .badSlot (.slot n none) s)
          ∧ (s.loop.state = .ready →
              exec (.rerun src n) s = .next (answered src 5 .badSlot (.slot n none) s))))
    ∧ (∀ i : SlotId, n.toNat = i.val + 1 → (s.slot i).state ≠ .free → senderStation src ≠ 0 →
      (s.slot i).owner ≠ senderStation src →
      exec (.cancel src n) s
        = .next (answered src 2 .notOwner (.slot n (some (s.slot i).block.tag)) s)
      ∧ exec (.release src n) s
        = .next (answered src 3 .notOwner (.slot n (some (s.slot i).block.tag)) s)
      ∧ exec (.clearFlag src n) s
        = .next (answered src 4 .notOwner (.slot n (some (s.slot i).block.tag)) s))
    ∧ (∀ i : SlotId, n.toNat = i.val + 1 → (s.slot i).state = .free →
      exec (.cancel src n) s = .next (answered src 2 .badSlot (.slot n none) s)
      ∧ exec (.release src n) s = .next (answered src 3 .badSlot (.slot n none) s)
      ∧ exec (.clearFlag src n) s = .next (answered src 4 .badSlot (.slot n none) s)
      ∧ (s.store.fault = false →
          exec (.resume src n) s = .next (answered src 6 .badSlot (.slot n none) s)
          ∧ (s.loop.state = .ready →
              exec (.rerun src n) s = .next (answered src 5 .badSlot (.slot n none) s))))
    ∧ (∀ i : SlotId, n.toNat = i.val + 1 → (s.slot i).state = .completed →
      (senderStation src = 0 ∨ (s.slot i).owner = senderStation src) →
      exec (.cancel src n) s
        = .next (answered src 2 .wrongState (.slot n (some (s.slot i).block.tag)) s))
    ∧ (s.store.fault = true →
      exec (.resume src n) s = .next (answered src 6 .configFault (.slot n (namedTag s n)) s))
    ∧ (∀ i : SlotId, n.toNat = i.val + 1 → (s.slot i).state ≠ .free → s.store.fault = false →
      (senderStation src ≠ 0 → (s.slot i).owner ≠ senderStation src →
          (s.slot i).block.confirm.map stationOf ≠ some (senderStation src) →
        exec (.resume src n) s
          = .next (answered src 6 .notOwner (.slot n (some (s.slot i).block.tag)) s))
      ∧ ((s.slot i).state ≠ .paused →
          (senderStation src = 0 ∨ (s.slot i).owner = senderStation src
            ∨ (s.slot i).block.confirm.map stationOf = some (senderStation src)) →
        exec (.resume src n) s
          = .next (answered src 6 .wrongState (.slot n (some (s.slot i).block.tag)) s)))
    ∧ (∀ rest, decodeRequest n rest = none →
      exec (.undecodableRequest src (n :: rest)) s = .next (answered src n .badRequest .none s))

/-- Cancel ends a QUEUED, PAUSED or DWELLING slot CANCELLED; the slot stands in no queue, and slots
that neither wait for the grant nor hold it are left alone. -/
def Obligations.CancelEndsAWaitingSlot : Prop :=
  ∀ (src : Sender) (i : SlotId) (n : Byte) (s : State), Reaches src s → n.toNat = i.val + 1 →
    s.arb.holder ≠ some i → (senderStation src = 0 ∨ (s.slot i).owner = senderStation src) →
    ((s.slot i).state = .queued ∨ (s.slot i).state = .paused ∨ (s.slot i).state = .dwelling) →
    ∃ t, exec (.cancel src n) s = .next t
      ∧ t.slot i = endedRecord .cancelled none (s.slot i) ∧ i ∉ t.sm.queue
      ∧ (∀ j, j ≠ i → (s.slot j).inert = true → t.slot j = s.slot j)
      ∧ Keeps (requestTaken src s) t

/-- Cancel of an ACTIVE slot begins a controlled stop with outcome ending CANCELLED: the slot is
STOPPING and keeps the grant, the ramp starts from the level in DRIVING or from 0, and the stroke's
other timers are discarded; with Ts at 0 the sequence ends CANCELLED at once. Cancel of a STOPPING
slot converts an interruption into that ending and leaves an ending as it is. -/
def Obligations.CancelStopsTheHolder : Prop :=
  ∀ (src : Sender) (i : SlotId) (n : Byte) (s : State) (k : Stroke),
    Reaches src s → n.toNat = i.val + 1 →
    (senderStation src = 0 ∨ (s.slot i).owner = senderStation src) →
    s.arb.holder = some i → s.se.stroke = some k → k.slot = i →
    ((s.slot i).state = .active ∨ (s.slot i).state = .stopping) →
    ∃ t, exec (.cancel src n) s = .next t ∧ Keeps (requestTaken src s) t
      ∧ (∀ j, j ≠ i → (s.slot j).inert = true → t.slot j = s.slot j)
      ∧ ((s.slot i).state = .active → (s.axisCfg k.axis).ts ≠ 0 →
          t.slot i = { s.slot i with state := .stopping, lastEnd := some .cancelled }
          ∧ t.arb = s.arb
          ∧ t.se.stroke = some { k with
              phase := .stopping, limitT := none, latchT := none, settleT := none, stallT := none
              rampLevel := if k.phase = .driving then s.se.drives[k.axis].level else 0
              rampT := some (s.axisCfg k.axis).ts }
          ∧ ∀ a : AxisId, t.se.drives[a]
              = if a = k.axis then { s.se.drives[a] with solenoid := false } else s.se.drives[a])
      ∧ ((s.slot i).state = .active → (s.axisCfg k.axis).ts = 0 → (s.slot i).interrupted = false →
          t.slot i = endedRecord .cancelled none { s.slot i with run := { (s.slot i).run with
            lastMove := ((s.slot i).curAxis.map fun a => (a, s.sensors[a].last)).or
              (s.slot i).run.lastMove } })
      ∧ ((s.slot i).state = .stopping →
          t.slot i = (if (s.slot i).interrupted then
            { s.slot i with interrupted := false, lastEnd := some .cancelled } else s.slot i)
          ∧ t.sm.queue = s.sm.queue ∧ t.arb = s.arb ∧ t.se = s.se)

/-- Release from the owner or the cab frees a COMPLETED slot, whatever its flag, with the answer OK, and
is refused WRONG_STATE on any other non-FREE slot. Clear Flag from the owner or the cab clears the flag
of a slot in any state but FREE and STOPPING, answers OK, and changes nothing else; on a STOPPING slot it
is refused WRONG_STATE. From any other station both are refused NOT_OWNER, and on a FREE slot BAD_SLOT. -/
def Obligations.ReleaseFreesAndClearFlagClears : Prop :=
  ∀ (src : Sender) (i : SlotId) (n : Byte) (s : State), Reaches src s → n.toNat = i.val + 1 →
    ((s.slot i).state = .free →
      exec (.release src n) s = .next (answered src 3 .badSlot (.slot n none) s)
      ∧ exec (.clearFlag src n) s = .next (answered src 4 .badSlot (.slot n none) s))
    ∧ ((s.slot i).state ≠ .free → (senderStation src = 0 ∨ (s.slot i).owner = senderStation src) →
      ((s.slot i).state = .completed →
        ∃ u t, exec (.release src n) s = .next t ∧ Settled u t
          ∧ u.slot i = Slot.empty ∧ t.slot i = Slot.empty ∧ (∀ j, j ≠ i → u.slot j = s.slot j)
          ∧ u.sm.queue = s.sm.queue ∧ Keeps (requestTaken src s) u ∧ u.arb = s.arb ∧ u.se = s.se
          ∧ u.crew = (answer (senderStation src) 3 .ok (.slot n (some (s.slot i).block.tag))
              (requestTaken src s)).crew
          ∧ u.cab = (answer (senderStation src) 3 .ok (.slot n (some (s.slot i).block.tag))
              (requestTaken src s)).cab)
      ∧ ((s.slot i).state ≠ .completed → exec (.release src n) s
          = .next (answered src 3 .wrongState (.slot n (some (s.slot i).block.tag)) s))
      ∧ ((s.slot i).state ≠ .stopping →
        ∃ t, exec (.clearFlag src n) s = .next t
          ∧ t.slot i = { s.slot i with flag := false } ∧ (∀ j, j ≠ i → t.slot j = s.slot j)
          ∧ t = { answered src 4 .ok (.slot n (some (s.slot i).block.tag)) s with sm := t.sm }
          ∧ t.sm.queue = s.sm.queue)
      ∧ ((s.slot i).state = .stopping → exec (.clearFlag src n) s
          = .next (answered src 4 .wrongState (.slot n (some (s.slot i).block.tag)) s)))
    ∧ ((s.slot i).state ≠ .free → senderStation src ≠ 0 → (s.slot i).owner ≠ senderStation src →
      exec (.release src n) s
        = .next (answered src 3 .notOwner (.slot n (some (s.slot i).block.tag)) s)
      ∧ exec (.clearFlag src n) s
        = .next (answered src 4 .notOwner (.slot n (some (s.slot i).block.tag)) s))

/-- Rerun is tested in order: STOPPED with the loop not READY, CONFIG_FAULT, BAD_SLOT, NOT_OWNER
from neither the owner nor the cab, WRONG_STATE unless the slot is COMPLETED, FLAG_SET. A Rerun that
passes is answered OK and begins the run anew at step 1, which becomes current; owner and block are
unchanged. -/
def Obligations.RerunBeginsTheRunAnew : Prop :=
  ∀ (src : Sender) (n : Byte) (s : State), Reaches src s →
    (s.loop.state ≠ .ready →
      exec (.rerun src n) s = .next (answered src 5 .stopped (.slot n (namedTag s n)) s))
    ∧ (s.loop.state = .ready → s.store.fault = true →
      exec (.rerun src n) s = .next (answered src 5 .configFault (.slot n (namedTag s n)) s))
    ∧ (s.loop.state = .ready → s.store.fault = false →
      (n = 0 ∨ 12 < n.toNat ∨ (∃ i : SlotId, n.toNat = i.val + 1 ∧ (s.slot i).state = .free)) →
      exec (.rerun src n) s = .next (answered src 5 .badSlot (.slot n none) s))
    ∧ ∀ i : SlotId, n.toNat = i.val + 1 → (s.slot i).state ≠ .free →
      s.loop.state = .ready → s.store.fault = false →
      (senderStation src ≠ 0 → (s.slot i).owner ≠ senderStation src → exec (.rerun src n) s
          = .next (answered src 5 .notOwner (.slot n (some (s.slot i).block.tag)) s))
      ∧ ((senderStation src = 0 ∨ (s.slot i).owner = senderStation src) →
        ((s.slot i).state ≠ .completed → exec (.rerun src n) s
            = .next (answered src 5 .wrongState (.slot n (some (s.slot i).block.tag)) s))
        ∧ ((s.slot i).state = .completed → (s.slot i).flag = true → exec (.rerun src n) s
            = .next (answered src 5 .flagSet (.slot n (some (s.slot i).block.tag)) s))
        ∧ ((s.slot i).state = .completed → (s.slot i).flag = false →
          ∃ u t, exec (.rerun src n) s = .next t ∧ Settled (makeCurrent i false u) t
            ∧ u = { answer (senderStation src) 5 .ok (.slot n (some (s.slot i).block.tag))
                    (requestTaken src s) with sm := u.sm }
            ∧ u.slot i = { s.slot i with
                passCount := 0, lastEnd := none, endStep := none, step := 1
                run := { lastMove := none, acceptShort := 0, joinDropped := false, wait := none } }
            ∧ (∀ j, j ≠ i → u.slot j = s.slot j) ∧ u.sm.queue = s.sm.queue))

/-- Resume of a PAUSED slot by its owner, its confirm station or the cab is answered OK and starts the
step, without regard to its P flag: a DWELL's timer starts; a MOVE is queued, at the front of its Class if
the slot is marked interrupted; a CHECK that fails ends the sequence. A DWELL or a MOVE with N tells the
owner, behind the answer. -/
def Obligations.ResumeStartsThePausedStep : Prop :=
  ∀ (src : Sender) (i : SlotId) (n : Byte) (s : State) (st : Machine.Step),
    Reaches src s → n.toNat = i.val + 1 → s.store.fault = false → s.arb.holder ≠ some i →
    (senderStation src = 0 ∨ (s.slot i).owner = senderStation src
      ∨ (s.slot i).block.confirm.map stationOf = some (senderStation src)) →
    (s.slot i).state = .paused → (s.slot i).curStep = some st →
    ∃ u t, exec (.resume src n) s = .next t ∧ Settled u t ∧ Keeps (requestTaken src s) u
      ∧ (∀ j, j ≠ i → u.slot j = s.slot j)
      ∧ (st.action = .dwell → u.slot i = { s.slot i with
          state := .dwelling, pauseCause := none, dwellT := some (st.dwell * 100) })
      ∧ (st.action = .move → u.slot i = { s.slot i with state := .queued, pauseCause := none }
          ∧ u.sm.queue = if (s.slot i).interrupted then insertFront s i s.sm.queue
              else s.sm.queue ++ [i])
      ∧ (st.action = .dwell ∨ st.action = .move → SameNotices (toldStarted i (s.slot i) st
          (answer (senderStation src) 6 .ok (.slot n (some (s.slot i).block.tag)) (requestTaken src s))) u)
      ∧ (∀ r, st.action = .check → checkReason s (s.slot i) st = some r →
          u.slot i = endedRecord .checkFailed (some r) (s.slot i))

/-- Interrogate, Read Status and Read Configuration change nothing but the queue their answer is
placed in (the fields that an Interrogate reports in each state: DEDUCED, log 36). -/
def Obligations.QuestionsOnlyAnswer : Prop :=
  ∀ (src : Sender) (s : State), Reaches src s →
    (∀ (i : SlotId) (n : Byte), n.toNat = i.val + 1 →
      exec (.interrogate src n) s = .next (answered src 7 .ok
        (.report i (if (s.slot i).state = .free then none else some (reportOf s i))) s))
    ∧ exec (.readStatus src) s
        = .next (answered src 15 .ok (.status s.faults (summaryOf s)) s)
    ∧ (∀ (p : Byte), partSpan p.toNat = none →
        exec (.readConfiguration src p) s = .next (answered src 16 .badSection .none s))
    ∧ (∀ (p : Byte) (first len : Nat), partSpan p.toNat = some (first, len) →
        exec (.readConfiguration src p) s = .next (answered src 16 .ok
          (.config ((s.store.bytes.drop first).take len) (carriedCheck s.store.bytes)
            (configMark s.store)) s))

/-! ## Zones -/

/-- Block Zone is refused BAD_ZONE outside zones 1 to 5, and NOT_PERMITTED to a crew station without
rights in the zone. Accepted, it adds the sender to the Block Set, leaves the zone BLOCKED with its
timer discarded, and answers OK with the zone, the state and the number of stations; on entry into
BLOCKED the zone is flushed after the answer (slots in increasing number: DESIGN CHOICE, log 13), so that
every QUEUED, PAUSED or ACTIVE slot whose current step is on an axis of the zone ends ZONE_BLOCKED, an
ACTIVE one with its axis at rest and the grant released. Other zones' blocks and other waiting slots are
left alone. -/
def Obligations.BlockZoneBlocksAndFlushes : Prop :=
  ∀ (src : Sender) (n : Byte) (s : State), Reaches src s →
    ((n = 0 ∨ 5 < n.toNat) → exec (.blockZone src n) s = .next (answered src 8 .badZone .none s))
    ∧ (∀ z : ZoneId, n.toNat = z.val + 1 → s.store.fault = false →
        hasRights s.cfg (senderStation src) z = false →
        exec (.blockZone src n) s = .next (answered src 8 .notPermitted .none s))
    ∧ (∀ z : ZoneId, n.toNat = z.val + 1 → GrantInv s →
        (s.store.fault = true ∨ hasRights s.cfg (senderStation src) z = true) →
        ∃ a u t, exec (.blockZone src n) s = .next t
          ∧ a = answer (senderStation src) 8 .ok
              (.zone z .blocked (blockerCount t.zt.blocks[z].set))
              { requestTaken src s with zt := { s.zt with blocks := t.zt.blocks } }
          ∧ u = (if s.zt.blocks[z].state = .blocked then a else flush z a) ∧ Settled u t
          ∧ (∀ y : ZoneId, t.zt.blocks[y] = if y = z then
                { set := s.zt.blocks[z].set.set (senderStation src) true
                  state := .blocked, releaseT := none }
              else s.zt.blocks[y])
          ∧ Keeps { requestTaken src s with zt := { s.zt with blocks := t.zt.blocks } } t
          ∧ (∀ i, (s.slot i).inert = true → (s.zt.blocks[z].state = .blocked
                ∨ (s.slot i).curAxis.bind s.axisZone ≠ some z ∨ (s.slot i).state ≠ .paused) →
              t.slot i = s.slot i)
          ∧ (s.zt.blocks[z].state ≠ .blocked → ∀ i,
              ((s.slot i).state = .queued ∨ (s.slot i).state = .paused) →
              (s.slot i).curAxis.bind s.axisZone = some z →
              t.slot i = endedRecord .zoneBlocked none (s.slot i))
          ∧ (s.zt.blocks[z].state ≠ .blocked → ∀ i, (s.slot i).state = .active →
              (s.slot i).curAxis.bind s.axisZone = some z →
              t.slot i = endedRecord .zoneBlocked none (withLastMove s (s.slot i))
              ∧ u.arb.holder = none ∧ u.se.stroke = none
              ∧ ∀ k, s.se.stroke = some k → u.se.drives[k.axis] = Drive.rest))

/-- Unblock Zone removes a crew station's own block, or from the cab every block. While a block is left
the zone stays as it was; when the Block Set empties it enters RELEASING with its Release Delay, or
UNBLOCKED at once where the delay is 0. The answer OK carries the zone, the resulting state and the
stations left. At the expiry of the release timer the zone enters UNBLOCKED. Without a block to remove,
Unblock Zone is refused WRONG_STATE, and outside zones 1 to 5 BAD_ZONE. Before its time an expiry changes
nothing (DESIGN CHOICE, log 4). -/
def Obligations.UnblockZoneReleasesAfterTheDelay : Prop :=
  ∀ (src : Sender) (z : ZoneId) (n : Byte) (s : State),
    (Reaches src s → n.toNat = z.val + 1 →
      (∀ c k, src = .crew c k → s.zt.blocks[z].set[stationOf c] = true) →
      (src = .cab → ∃ st : StationId, s.zt.blocks[z].set[st] = true) →
      ∃ u t, exec (.unblockZone src n) s = .next t ∧ Settled u t
        ∧ u = answer (senderStation src) 9 .ok
            (.zone z t.zt.blocks[z].state (blockerCount t.zt.blocks[z].set))
            { requestTaken src s with zt := { s.zt with blocks := t.zt.blocks } }
        ∧ (∀ st : StationId, t.zt.blocks[z].set[st]
            = (s.zt.blocks[z].set[st] && src != .cab && st != senderStation src))
        ∧ ((∃ st : StationId, t.zt.blocks[z].set[st] = true) →
            t.zt.blocks[z].state = s.zt.blocks[z].state
            ∧ t.zt.blocks[z].releaseT = s.zt.blocks[z].releaseT)
        ∧ ((∀ st : StationId, t.zt.blocks[z].set[st] = false) → s.cfg.zones[z].releaseDelay ≠ 0 →
            t.zt.blocks[z].state = .releasing
            ∧ t.zt.blocks[z].releaseT = some s.cfg.zones[z].releaseDelay)
        ∧ ((∀ st : StationId, t.zt.blocks[z].set[st] = false) → s.cfg.zones[z].releaseDelay = 0 →
            t.zt.blocks[z].state = .unblocked ∧ t.zt.blocks[z].releaseT = none)
        ∧ (∀ y : ZoneId, y ≠ z → t.zt.blocks[y] = s.zt.blocks[y])
        ∧ Keeps { requestTaken src s with zt := { s.zt with blocks := t.zt.blocks } } t
        ∧ (∀ i, (s.slot i).inert = true → t.slot i = s.slot i))
    ∧ (Reaches src s → n.toNat = z.val + 1 →
      (∀ st : StationId, (src = .cab ∨ st = senderStation src) → s.zt.blocks[z].set[st] = false) →
      exec (.unblockZone src n) s = .next (answered src 9 .wrongState .none s))
    ∧ (Reaches src s → (n = 0 ∨ 5 < n.toNat) →
      exec (.unblockZone src n) s = .next (answered src 9 .badZone .none s))
    ∧ (s.zt.blocks[z].releaseT ≠ some 0 → exec (.releaseTimerExpiry z) s = .next s)
    ∧ (s.zt.blocks[z].releaseT = some 0 → ∃ t, exec (.releaseTimerExpiry z) s = .next t
        ∧ (∀ y : ZoneId, t.zt.blocks[y] = if y = z then
            { s.zt.blocks[z] with state := .unblocked, releaseT := none } else s.zt.blocks[y])
        ∧ Keeps { s with zt := { s.zt with blocks := t.zt.blocks } } t
        ∧ (∀ i, (s.slot i).inert = true → t.slot i = s.slot i))

/-- The traffic permit: a grant by the cab with Drive-Off OFF starts the timer with the full duration (at
a road speed that does not enter Drive-Off in the same event), and a withdrawal ends it, each answered OK
with the resulting state and the seconds remaining; the expiry ends it. A grant with Drive-Off ON is
refused WRONG_STATE, both kinds CONFIG_FAULT in CONFIG_FAULT, and a crew station NOT_PERMITTED. Before its
time an expiry changes nothing (DESIGN CHOICE, log 4). -/
def Obligations.TrafficPermitIsGrantedAndEnds : Prop :=
  ∀ s : State,
    (Reaches .cab s → s.store.fault = false → s.zt.driveOff = false → roadSpeed s < 3 →
      ∃ u t, exec (.trafficPermitGrant .cab) s = .next t ∧ Settled u t
        ∧ u = answer 0 10 .ok (.permit (some (max 1 s.cfg.permitSeconds)))
            { s with zt := { s.zt with permitT := some (1000 * s.cfg.permitSeconds) } }
        ∧ t.zt.permitT = some (1000 * s.cfg.permitSeconds) ∧ Keeps s t
        ∧ (∀ i, (s.slot i).inert = true → t.slot i = s.slot i))
    ∧ (Reaches .cab s → s.store.fault = false → s.zt.driveOff = true →
        exec (.trafficPermitGrant .cab) s = .next (answered .cab 10 .wrongState .none s))
    ∧ (Reaches .cab s → s.store.fault = true →
        exec (.trafficPermitGrant .cab) s = .next (answered .cab 10 .configFault .none s)
        ∧ exec (.trafficPermitWithdraw .cab) s = .next (answered .cab 10 .configFault .none s))
    ∧ (Reaches .cab s → s.store.fault = false →
      ∃ u t, exec (.trafficPermitWithdraw .cab) s = .next t ∧ Settled u t
        ∧ u = answer 0 10 .ok (.permit none) { s with zt := { s.zt with permitT := none } }
        ∧ t.zt.permitT = none ∧ Keeps s t ∧ (∀ i, (s.slot i).inert = true → t.slot i = s.slot i))
    ∧ (s.zt.permitT ≠ some 0 → exec .permitTimerExpiry s = .next s)
    ∧ (s.zt.permitT = some 0 → ∃ t, exec .permitTimerExpiry s = .next t ∧ t.zt.permitT = none
        ∧ Keeps s t ∧ (∀ i, (s.slot i).inert = true → t.slot i = s.slot i))
    ∧ (∀ c n, Reaches (.crew c n) s →
        exec (.trafficPermitGrant (.crew c n)) s
          = .next (answered (.crew c n) 10 .notPermitted .none s)
        ∧ exec (.trafficPermitWithdraw (.crew c n)) s
          = .next (answered (.crew c n) 10 .notPermitted .none s))

/-- A Chassis Status frame is the vehicle's new content, FRESH for 500 ms. At 3 km/h or more Drive-Off is
entered while a zone is OPEN or a slot is QUEUED, STOPPING or ACTIVE (one whose own stop, with Ts at 0,
does not end it in the event); an entry ends the traffic permit and makes a Part Status due, which a free
transmitter begins, its count rising as the run begins (DESIGN CHOICE, log 44). Drive-Off is left at a
road speed of 0, and with every zone HOME and no such slot; 1 or 2 km/h neither enters nor leaves it. A
malformed frame is disregarded whole. One that reports the engine running makes the supply state NORMAL
and sets the four start times to none; any other leaves both as they are. At the expiry of the freshness
timer the content is kept, the flag CHASSIS_STALE is set, and the vehicle condition is not satisfied. A
frame or an expiry by which the vehicle condition is lost begins a controlled stop of an ACTIVE holder
whose Ts is above 0, with outcome ending VEHICLE. Before its time an expiry changes nothing (DESIGN
CHOICE, log 4). -/
def Obligations.ChassisStatusIsTakenAndGoesStale : Prop :=
  ∀ (data : List Byte) (s : State),
    (s.parked = false → (data.length < 4 ∨ 1 < (data.getD 0 0).toNat ∨ 250 < (data.getD 1 0).toNat
        ∨ 1 < (data.getD 2 0).toNat ∨ 1 < (data.getD 3 0).toNat) →
      exec (.chassisStatus data) s = .next s)
    ∧ (∀ v, s.parked = false → readChassis data = some v →
      ∃ t, exec (.chassisStatus data) s = .next t
        ∧ ((anyOpen s = true ∨ ∃ i, (s.slot i).state = .queued ∨ (s.slot i).state = .stopping
              ∨ ((s.slot i).state = .active ∧ ∀ k, s.se.stroke = some k → (s.axisCfg k.axis).ts ≠ 0)) →
            (3 ≤ v.speed → t.zt.driveOff = true)
            ∧ (3 ≤ v.speed → s.zt.driveOff = true → t.zt.permitT = s.zt.permitT)
            ∧ (3 ≤ v.speed → s.zt.driveOff = false → t.zt.permitT = none
              ∧ (s.tx.run ≠ none → t.tx.due = true)
              ∧ (s.tx.run = none → t.tx = { s.tx with
                  run := some (TxRun.mk (.partStatus (summaryOf t) true t.faults) s.tx.count
                    s.cfg.canBase 0 false)
                  due := false, count := s.tx.count + 1 }))
            ∧ (v.speed = 1 ∨ v.speed = 2 → t.zt.driveOff = s.zt.driveOff))
        ∧ (anyOpen s = false → (∀ i, (s.slot i).state ≠ .queued ∧ (s.slot i).state ≠ .active
              ∧ (s.slot i).state ≠ .stopping) →
            t.zt.driveOff = false ∧ t.zt.permitT = s.zt.permitT)
        ∧ (v.speed < 3 → t.zt.permitT = s.zt.permitT
            ∧ (s.zt.driveOff = false → t.zt.driveOff = false))
        ∧ (v.speed = 0 → t.zt.driveOff = false)
        ∧ t.veh = { status := some v, freshT := some 500 }
        ∧ t.sensors = s.sensors ∧ t.zt.blocks = s.zt.blocks ∧ t.zt.position = s.zt.position
        ∧ t.loop = s.loop ∧ t.arb.hold = s.arb.hold ∧ t.cfg = s.cfg ∧ t.store = s.store
        ∧ t.lines = s.lines
        ∧ (v.engine = true → t.sup.supply = .normal ∧ t.sup.belowNormal = none ∧ t.sup.belowExh = none
            ∧ t.sup.aboveExh = none ∧ t.sup.aboveNormal = none)
        ∧ (v.engine = false → t.sup.supply = s.sup.supply ∧ t.sup.belowNormal = s.sup.belowNormal
            ∧ t.sup.belowExh = s.sup.belowExh ∧ t.sup.aboveExh = s.sup.aboveExh
            ∧ t.sup.aboveNormal = s.sup.aboveNormal)
        ∧ (∀ i k, vehicleOk s = true → (v.brake = false ∨ v.speed ≠ 0) →
            s.arb.holder = some i → (s.slot i).state = .active → s.se.stroke = some k → k.slot = i →
            (s.axisCfg k.axis).ts ≠ 0 →
            t.slot i = { s.slot i with state := .stopping, lastEnd := some .vehicle }
            ∧ t.arb.holder = some i ∧ t.se.stroke = some (stoppingStroke s k))
        ∧ (∀ i, (s.slot i).inert = true → t.slot i = s.slot i))
    ∧ (s.veh.freshT ≠ some 0 → exec .freshnessTimerExpiry s = .next s)
    ∧ (s.veh.freshT = some 0 → ∃ t, exec .freshnessTimerExpiry s = .next t
        ∧ (∀ i k, vehicleOk s = true →
            s.arb.holder = some i → (s.slot i).state = .active → s.se.stroke = some k → k.slot = i →
            (s.axisCfg k.axis).ts ≠ 0 →
            t.slot i = { s.slot i with state := .stopping, lastEnd := some .vehicle }
            ∧ t.arb.holder = some i ∧ t.se.stroke = some (stoppingStroke s k))
        ∧ t.veh = { s.veh with freshT := none } ∧ flagIn t.faults .chassisStale = true
        ∧ vehicleOk t = false
        ∧ Keeps { s with veh := t.veh } t
        ∧ (∀ i, (s.slot i).inert = true → t.slot i = s.slot i))

/-! ## The arbiter and the pump -/

/-- With the grant free and an eligible slot in the Request Queue, a slot is chosen; and a choice that
stands once intent is derived is granted in the event, for a travel beyond Tb (derived first: DESIGN
CHOICE, log 12). The free grant goes to an eligible QUEUED slot such that no eligible slot of the queue
has a higher Class, and no eligible slot of its Class stands before it. It takes the slot out of the queue
into ACTIVE with its interrupted mark clear, makes it the holder, and the Stroke Engine takes up its step.
For a travel beyond Tb an OFF pump starts and the stroke waits in PUMP_WAIT, as it does for a STARTING
pump; for a READY pump the stroke starts at once. At zero travel, with no stroke flowing, the step
completes at once without the pump, its join dropped and the grant given back, or ends LATCH at Home with
the switch released. -/
def Obligations.GrantGoesToTheHighestClassEarliest : Prop :=
  ∀ s : State,
    (s.arb.holder = none → (∃ j ∈ s.sm.queue, eligible s j = true) → ∃ i, grantChoice s = some i)
    ∧ (∀ (i : SlotId) (st : Machine.Step) (a : AxisId), grantChoice (deriveIntent s) = some i →
        (s.slot i).curStep = some st → (s.slot i).curAxis = some a →
        (s.axisCfg a).tb < gapOf st.target (s.lastPos a) →
        (settle s).arb.holder = some i ∧ ((settle s).slot i).state = .active ∧ i ∉ (settle s).sm.queue)
    ∧ ∀ i : SlotId, grantChoice s = some i →
      s.arb.holder = none ∧ eligible s i = true
      ∧ ∃ front back, s.sm.queue = front ++ i :: back
        ∧ (∀ j ∈ front, eligible s j = true → (s.slot j).block.cls ≠ (s.slot i).block.cls)
        ∧ (∀ j ∈ s.sm.queue, eligible s j = true →
            ((s.slot i).block.cls = .recovery
              ∨ ((s.slot i).block.cls = .priority ∧ (s.slot j).block.cls ≠ .recovery)
              ∨ ((s.slot i).block.cls = .routine ∧ (s.slot j).block.cls = .routine)))
      ∧ ∀ (st : Machine.Step) (a : AxisId), (s.slot i).curStep = some st → (s.slot i).curAxis = some a →
          (s.axisCfg a).tb < gapOf st.target (s.lastPos a) →
          Keeps s (grant i s) ∧ (∀ j, j ≠ i → (grant i s).slot j = s.slot j)
          ∧ (grant i s).sm.queue = s.sm.queue.filter (· != i)
          ∧ (s.arb.pump ≠ .ready →
              (grant i s).slot i = { s.slot i with state := .active, interrupted := false }
              ∧ (grant i s).se = { s.se with stroke := some (freshStroke i (s.slot i).step a) }
              ∧ (grant i s).arb = (if s.arb.pump = .off then
                  { s.arb with holder := some i, pump := .starting, startT := some s.cfg.startLimit }
                else { s.arb with holder := some i }))
          ∧ (s.arb.pump = .ready →
              (∃ k, StrokeBegins s i st a k (grant i s)
                ∧ (grant i s).slot i = { s.slot i with
                    state := .active, interrupted := false
                    run := { (s.slot i).run with
                      joinDropped := (s.slot i).run.joinDropped || k.join == .dropped } })
              ∧ (grant i s).arb = { s.arb with holder := some i, pump := .flowing, runOnT := none })
      ∧ ∀ (st : Machine.Step) (a : AxisId) (x : Slot), (s.slot i).curStep = some st →
          (s.slot i).curAxis = some a → gapOf st.target (s.lastPos a) ≤ (s.axisCfg a).tb →
          s.arb.pump ≠ .flowing →
          x = { s.slot i with
            state := .active, interrupted := false
            run := { (s.slot i).run with
              joinDropped := (s.slot i).run.joinDropped || st.join
              lastMove := some (a, s.sensors[a].last) } } →
          Keeps s (grant i s) ∧ (∀ j, j ≠ i → (grant i s).slot j = s.slot j)
          ∧ (grant i s).arb = { s.arb with holder := none }
          ∧ (grant i s).se = { drives := s.se.drives.set a Drive.rest, stroke := none }
          ∧ (latchMissing s a st.target = false →
              StepCompletes { s with sm := { s.sm with queue := s.sm.queue.filter (· != i) } } i x st
                (grant i s))
          ∧ (latchMissing s a st.target = true → (grant i s).slot i = endedRecord .latch none x)

/-- A slot is eligible exactly when it is QUEUED, its current step passes the masks and the zone permit on
its axis, and the zone of the axis is WARNED with its pre-warn not run out. The masks and the zone permit
pass exactly when the hold is not FULL, and not PARTIAL unless the Class is RECOVERY or the owner is not
of level 0; the pump is not in FAULT, nor, unless the Class is RECOVERY, the supply EXHAUSTED; the chassis
status is FRESH with the brake applied and speed 0; the axis is VALID and its zone UNBLOCKED; for a travel
beyond Tb no entry of the Conflict Table forbids the motion, and in a traffic-side zone a motion away from
home has the permit; and the enable is held for a step with H. A CHECK passes by the masks and the zone
permit alone. -/
def Obligations.EligibleSlotPassesEveryCheck : Prop :=
  ∀ s : State,
    (∀ i : SlotId, eligible s i = true ↔ (s.slot i).state = .queued
      ∧ ∃ (st : Machine.Step) (a : AxisId) (z : ZoneId),
        (s.slot i).curStep = some st ∧ (s.slot i).curAxis = some a ∧ s.axisZone a = some z
        ∧ motionReason s (s.slot i) st a = none
        ∧ s.bu.warns[z].state = .warned ∧ s.bu.warns[z].runOut = false)
    ∧ (∀ (x : Slot) (st : Machine.Step),
        checkReason s x st = none ↔ ∃ a, st.axisId = some a ∧ motionReason s x st a = none)
    ∧ ∀ (x : Slot) (st : Machine.Step) (a : AxisId), motionReason s x st a = none ↔
      s.arb.hold ≠ .full ∧ s.arb.pump ≠ .fault
      ∧ (s.arb.hold = .partly → x.block.cls = .recovery ∨ levelOf s.cfg x.owner ≠ 0)
      ∧ (s.sup.supply = .exhausted → x.block.cls = .recovery)
      ∧ (∃ v, s.veh.status = some v ∧ s.veh.freshT ≠ none ∧ v.brake = true ∧ v.speed = 0)
      ∧ (∃ p, s.sensors[a].state = .valid ∧ s.sensors[a].last = some p
        ∧ (∀ z, s.axisZone a = some z → s.zt.blocks[z].state = .unblocked)
        ∧ ((s.axisCfg a).tb < gapOf st.target p →
            (∀ e ∈ s.cfg.conflicts, ∀ g : AxisId, e.guarded = some g → e.blocked = some a →
              (s.axisCfg g).present = true → (s.axisCfg a).present = true →
              (e.dir = .both ∨ (e.dir = .extend ∧ p < st.target)
                ∨ (e.dir = .retract ∧ st.target ≤ p)) →
              ∃ q, s.sensors[g].state = .valid ∧ s.sensors[g].last = some q
                ∧ (q < e.lo ∨ e.hi < q))
            ∧ (∀ z, s.axisZone a = some z → s.cfg.zones[z].trafficSide = true →
              towardHome p st.target (s.axisCfg a).home (s.axisCfg a).tb = false →
              s.zt.permitT ≠ none)))
      ∧ (st.holdToRun = true → ∃ c, x.block.confirm = some c ∧ s.crew[c].enable = true)

/-- Hold raises the level and never lowers it. The answer OK with the level stands before the ALERT
to every station, and the ALERT before the notice of an interruption that ends in the same event
(DESIGN CHOICE, log 38); with no change of the level only the answer follows; a rise to FULL
interrupts an ACTIVE holder whose Ts is above 0; a code other than PARTIAL or FULL is refused
BAD_LEVEL. Release Hold from the cab or a level-1 crew station sets NONE, answers OK, and then
alerts every station of a change (the answer first: DESIGN CHOICE, log 39); from a level-0 crew
station, and from every crew station in CONFIG_FAULT, it is refused NOT_PERMITTED. -/
def Obligations.HoldRaisesAndReleaseHoldClears : Prop :=
  ∀ (src : Sender) (code : Byte) (s : State), Reaches src s →
    (code ≠ 1 → code ≠ 2 → exec (.hold src code) s = .next (answered src 11 .badLevel .none s))
    ∧ (∀ level, (code = 2 ∧ s.arb.hold ≠ .full ∧ level = .full
          ∨ code = 1 ∧ s.arb.hold = .none ∧ level = .partly) →
        ∃ u t, exec (.hold src code) s = .next t
          ∧ u = interruptMasked (placeAll (.alert (.hold level (senderStation src)))
              (answer (senderStation src) 11 .ok (.hold level)
                { requestTaken src s with arb := { s.arb with hold := level } }))
          ∧ Settled u t
          ∧ Keeps { requestTaken src s with arb := { s.arb with hold := level } } t
          ∧ (∀ j, (s.slot j).inert = true → t.slot j = s.slot j)
          ∧ (∀ i k, level = .full → s.arb.holder = some i → (s.slot i).state = .active →
              s.se.stroke = some k → k.slot = i → (s.axisCfg k.axis).ts ≠ 0 →
              t.slot i = { s.slot i with state := .stopping, interrupted := true }
              ∧ t.arb.holder = some i))
    ∧ ((code = 1 ∧ s.arb.hold ≠ .none ∨ code = 2 ∧ s.arb.hold = .full) →
        exec (.hold src code) s = .next (answered src 11 .ok (.hold s.arb.hold) s))
    ∧ ((src = .cab ∨ (s.store.fault = false ∧ levelOf s.cfg (senderStation src) = 1)) →
      (s.arb.hold ≠ .none → ∃ u t, exec (.releaseHold src) s = .next t
        ∧ u = placeAll (.alert (.hold .none (senderStation src)))
            (answer (senderStation src) 12 .ok .none
              { requestTaken src s with arb := { s.arb with hold := .none } })
        ∧ Settled u t
        ∧ Keeps { requestTaken src s with arb := { s.arb with hold := .none } } t
        ∧ (∀ j, (s.slot j).inert = true → t.slot j = s.slot j))
      ∧ (s.arb.hold = .none → exec (.releaseHold src) s = .next (answered src 12 .ok .none s)))
    ∧ (src ≠ .cab → (s.store.fault = true ∨ levelOf s.cfg (senderStation src) ≠ 1) →
        exec (.releaseHold src) s = .next (answered src 12 .notPermitted .none s))

/-- A pump-pressure sample (judged by the pump state it finds: DEDUCED, log 20): disregarded in OFF,
READY and FAULT; in STARTING nothing below Pready; at or above it the stroke in PUMP_WAIT starts,
for a travel beyond Tb, in LATCH_WAIT or DRIVING with the pump FLOWING, and where no stroke waits
the pump is READY with the run-on running; in FLOWING the pressure-loss timer below Plost, and the
stall timer of a DRIVING stroke at or above Pstall. -/
def Obligations.PressureSampleIsJudgedByThePumpState : Prop :=
  ∀ (bar : Nat) (s : State),
    ((s.arb.pump = .off ∨ s.arb.pump = .ready ∨ s.arb.pump = .fault) →
      exec (.pumpPressureSample bar) s = .next s)
    ∧ (s.arb.pump = .starting → bar < s.cfg.pready → exec (.pumpPressureSample bar) s = .next s)
    ∧ (s.arb.pump = .starting → s.cfg.pready ≤ bar → s.se.stroke = none → s.arb.holder = none →
        s.sm.queue = [] → s.arb.runOnT = none → runOnInForce s ≠ 0 →
        ∃ t, exec (.pumpPressureSample bar) s = .next t
          ∧ t.arb = { s.arb with pump := .ready, startT := none, runOnT := some (runOnInForce s) }
          ∧ t.sm = s.sm ∧ t.se = s.se ∧ Keeps s t)
    ∧ (∀ (i : SlotId) (k : Stroke) (st : Machine.Step), s.arb.pump = .starting → s.cfg.pready ≤ bar →
        s.se.stroke = some k → k.phase = .pumpWait → k.slot = i → s.arb.holder = some i →
        (s.slot i).curStep = some st → (s.axisCfg k.axis).tb < gapOf st.target (s.lastPos k.axis) →
        ∃ u t, exec (.pumpPressureSample bar) s = .next t ∧ Settled u t ∧ Keeps s u
          ∧ (∃ k2, StrokeBegins s i st k.axis k2 u
            ∧ u.slot i = { s.slot i with run := { (s.slot i).run with
                joinDropped := (s.slot i).run.joinDropped || k2.join == .dropped } })
          ∧ u.arb = { s.arb with pump := .flowing, startT := none, runOnT := none }
          ∧ u.sm.queue = s.sm.queue ∧ (∀ j, j ≠ i → u.slot j = s.slot j))
    ∧ (s.arb.pump = .flowing → ∃ t, exec (.pumpPressureSample bar) s = .next t
        ∧ t = { s with arb := t.arb, se := t.se } ∧ t.se.drives = s.se.drives
        ∧ t.arb = { s.arb with
            lossT := if bar < s.cfg.plost then some (s.arb.lossT.getD 500) else none }
        ∧ t.se.stroke = s.se.stroke.map (fun k =>
            if k.phase = .driving then
              if (s.axisCfg k.axis).pstall ≤ bar then
                { k with
                  stallT := some (k.stallT.getD 300)
                  stallRef := if k.stallT.isSome then k.stallRef else s.lastPos k.axis }
              else { k with stallT := none }
            else k))

/-- At the expiry of the run-on timer the pump enters OFF, and nothing else changes. The pump fails at the
expiry of the start timer and of the pressure-loss timer: FAULT, its timers discarded, the PUMP flag set;
the holder, if any, ends PUMP, whatever outcome its stop had. Before its time an expiry changes nothing
(DESIGN CHOICE, log 4). -/
def Obligations.PumpTimersStopThePump : Prop :=
  ∀ (c : Instr) (s : State),
    (s.arb.runOnT = some 0 → exec .runOnTimerExpiry s
      = .next { s with arb := { s.arb with pump := .off, runOnT := none } })
    ∧ (((c = .runOnTimerExpiry ∧ s.arb.runOnT ≠ some 0)
      ∨ (c = .startTimerExpiry ∧ s.arb.startT ≠ some 0)
      ∨ (c = .pressureLossTimerExpiry ∧ s.arb.lossT ≠ some 0)) → exec c s = .next s)
    ∧ (((c = .startTimerExpiry ∧ s.arb.startT = some 0)
      ∨ (c = .pressureLossTimerExpiry ∧ s.arb.lossT = some 0)) →
    ∃ u t, exec c s = .next t ∧ Settled u t ∧ Keeps s u
      ∧ t.arb.pump = .fault ∧ flagIn t.faults .pump = true
      ∧ u.arb.startT = none ∧ u.arb.runOnT = none ∧ u.arb.lossT = none
      ∧ (∀ i, s.arb.holder = some i →
          t.slot i = endedRecord .pump none { s.slot i with run := { (s.slot i).run with
            lastMove := ((s.slot i).curAxis.map fun a => (a, s.sensors[a].last)).or
              (s.slot i).run.lastMove } }
          ∧ u.arb.holder = none ∧ u.se.stroke = none)
      ∧ (∀ j, s.arb.holder ≠ some j → (s.slot j).inert = true → t.slot j = s.slot j))

/-! ## Sensors and strokes -/

/-- A position sample changes the sensor of its axis by its state, and no other sensor: an UNSYNCED
sensor needs two samples within 8 counts; a VALID one takes a sample within 256 counts and goes to FAULT
on any other, by which a holder whose current step is on the axis ends SENSOR at once; a FAULT one starts
anew. A sample of an axis not present is disregarded. A sample that keeps the sensor VALID moves the stroke
on its axis: in DRIVING it ends OVER past the envelope; at arrival it settles with the flow ending, or a
pending join is taken and the next stroke drives from there (at once, its stall timer stopped: logs 11 and
40) with the grant and the flow kept; else the level is set; in STOPPING the level follows the ramp. -/
def Obligations.SampleMovesTheSensorState : Prop :=
  ∀ (a : AxisId) (flagged : Bool) (p : Nat) (s : State),
    ((s.axisCfg a).present = false → exec (.sensorSample a flagged p) s = .next s)
    ∧ ((s.axisCfg a).present = true → ∃ u t, exec (.sensorSample a flagged p) s = .next t
      ∧ Settled u t
      ∧ Keeps { s with sensors := t.sensors, zt := { s.zt with position := t.zt.position } } u
      ∧ (∀ b : AxisId, b ≠ a → t.sensors[b] = s.sensors[b])
      ∧ (s.sensors[a].state = .unsynced → flagged = true →
          t.sensors[a] = { s.sensors[a] with cand := none })
      ∧ (s.sensors[a].state = .unsynced → flagged = false →
          (∀ c, s.sensors[a].cand = some c → p + 8 < c ∨ c + 8 < p) →
          t.sensors[a] = { s.sensors[a] with cand := some p })
      ∧ (∀ c, s.sensors[a].state = .unsynced → flagged = false → s.sensors[a].cand = some c →
          p ≤ c + 8 → c ≤ p + 8 →
          t.sensors[a] = { state := .valid, last := some p, cand := none
                           watchdog := if s.parked then none else some 50 })
      ∧ (∀ q, s.sensors[a].state = .valid → flagged = false → s.sensors[a].last = some q →
          p ≤ q + 256 → q ≤ p + 256 →
          t.sensors[a] = { s.sensors[a] with
            last := some p, watchdog := if s.parked then none else some 50 })
      ∧ (∀ q, s.sensors[a].state = .valid → s.sensors[a].last = some q →
          (flagged = true ∨ q + 256 < p ∨ p + 256 < q) →
          t.sensors[a] = { s.sensors[a] with state := .fault, watchdog := none }
          ∧ flagIn t.faults (.sensor a) = true)
      ∧ (∀ q i, s.sensors[a].state = .valid → s.sensors[a].last = some q →
          (flagged = true ∨ q + 256 < p ∨ p + 256 < q) →
          s.arb.holder = some i → (s.slot i).curAxis = some a →
          t.slot i = endedRecord .sensor none { s.slot i with run := { (s.slot i).run with
            lastMove := some (a, some q) } }
          ∧ u.arb.holder = none ∧ u.se.stroke = none
          ∧ (∀ k, s.se.stroke = some k → u.se.drives[k.axis] = Drive.rest)
          ∧ (∀ j, j ≠ i → u.slot j = s.slot j))
      ∧ (s.sensors[a].state = .fault → flagged = true → t.sensors[a] = s.sensors[a])
      ∧ (s.sensors[a].state = .fault → flagged = false →
          t.sensors[a] = { s.sensors[a] with state := .unsynced, cand := some p })
      ∧ (∀ q k, s.sensors[a].state = .valid → flagged = false → s.sensors[a].last = some q →
          p ≤ q + 256 → q ≤ p + 256 → s.se.stroke = some k → k.axis = a →
          s.arb.holder = some k.slot → (s.slot k.slot).curAxis = some a →
          (k.phase = .driving → OverAt (s.axisCfg a) k p →
            t.slot k.slot = endedRecord .over none { s.slot k.slot with run :=
              { (s.slot k.slot).run with lastMove := some (a, some p) } }
            ∧ u.se = { s.se with drives := s.se.drives.set a Drive.rest, stroke := none }
            ∧ u.arb.holder = none ∧ (∀ j, j ≠ k.slot → u.slot j = s.slot j))
          ∧ (k.phase = .driving → ¬ OverAt (s.axisCfg a) k p → ArrivedAt (s.axisCfg a) k p →
            k.join ≠ .pending → (s.axisCfg a).settle ≠ 0 →
            u.sm = s.sm ∧ u.arb = (flowEnds s).arb
            ∧ u.se.stroke = some { k with
                phase := .settling, limitT := none, stallT := none
                settleT := some (s.axisCfg a).settle }
            ∧ u.se.drives = s.se.drives.set a
                { s.se.drives[a] with level := 0, valve := .neutral })
          ∧ (∀ nxt, k.phase = .driving → ¬ OverAt (s.axisCfg a) k p → ArrivedAt (s.axisCfg a) k p →
            k.join = .pending → (s.slot k.slot).nextStep = some nxt →
            (s.axisCfg a).tb < gapOf nxt.target p →
            ∃ k2, u.se.stroke = some k2 ∧ k2.slot = k.slot
              ∧ StrokeFigures s { s.slot k.slot with step := (s.slot k.slot).step + 1 } nxt a true p k2
              ∧ k2.phase = .driving ∧ k2.limitT = some k2.limit ∧ k2.stallT = none
              ∧ u.se.drives = s.se.drives.set a { level := driveLevel (s.axisCfg a) k2 p
                                                  valve := valveFor k2.dir, solenoid := false }
              ∧ u.arb = s.arb ∧ u.sm.queue = s.sm.queue ∧ (∀ j, j ≠ k.slot → u.slot j = s.slot j)
              ∧ u.slot k.slot = { s.slot k.slot with
                  step := (s.slot k.slot).step + 1, interrupted := false
                  run := { (s.slot k.slot).run with
                    joinDropped := (s.slot k.slot).run.joinDropped || k2.join == .dropped } })
          ∧ (k.phase = .driving → ¬ OverAt (s.axisCfg a) k p → ¬ ArrivedAt (s.axisCfg a) k p →
            u.sm = s.sm ∧ u.arb = s.arb
            ∧ u.se.stroke = some { k with
                stallT := if k.stallT.isSome ∧ 4 ≤ gapOf p k.stallRef then none else k.stallT }
            ∧ u.se.drives = s.se.drives.set a
                { s.se.drives[a] with level := driveLevel (s.axisCfg a) k p })
          ∧ (k.phase = .stopping →
            u.sm = s.sm ∧ u.arb = s.arb ∧ u.se.stroke = some k
            ∧ u.se.drives = s.se.drives.set a
                { s.se.drives[a] with
                  level := min (k.rampLevel * k.rampT.getD 0 / (s.axisCfg a).ts)
                    (if k.started then k.vc else 0) }))
      ∧ t.zt.blocks = s.zt.blocks ∧ t.arb.hold = s.arb.hold ∧ t.loop = s.loop ∧ t.veh = s.veh
      ∧ t.cfg = s.cfg ∧ t.store = s.store ∧ t.lines = s.lines)

/-- At the expiry of its watchdog a sensor goes to FAULT with its flag set, and a holder whose current
step is on that axis ends SENSOR at once. Before its time an expiry changes nothing (DESIGN CHOICE, log
4). -/
def Obligations.WatchdogExpiryFaultsTheSensor : Prop :=
  ∀ (a : AxisId) (s : State),
    (s.sensors[a].watchdog ≠ some 0 → exec (.sampleWatchdogExpiry a) s = .next s)
    ∧ (s.sensors[a].watchdog = some 0 → ∃ t, exec (.sampleWatchdogExpiry a) s = .next t
      ∧ (∀ b : AxisId, t.sensors[b] = if b = a then
          { s.sensors[a] with state := .fault, watchdog := none } else s.sensors[b])
      ∧ flagIn t.faults (.sensor a) = true
      ∧ (∀ i, s.arb.holder = some i → (s.slot i).curAxis = some a →
          t.slot i = endedRecord .sensor none { s.slot i with run := { (s.slot i).run with
            lastMove := some (a, s.sensors[a].last) } })
      ∧ (∀ j, s.arb.holder ≠ some j → (s.slot j).inert = true → t.slot j = s.slot j)
      ∧ Keeps { s with sensors := t.sensors, zt := { s.zt with position := t.zt.position } } t)

/-- The expiries of the time-limit, stall and latch timers end the stroke TIMEOUT, STALLED and LATCH: the
axis comes to rest and the grant is released. The sequence ends with that cause, or, for TIMEOUT and
STALLED on a step with the A flag, the step completes normally with the Accept Short count increased.
Before its time an expiry changes nothing (DESIGN CHOICE, log 4). -/
def Obligations.StrokeTimersEndTheStroke : Prop :=
  ∀ (c : Instr) (cause : EndCause) (s : State) (k : Stroke) (st : Machine.Step),
    s.se.stroke = some k → s.arb.holder = some k.slot → (s.slot k.slot).curStep = some st →
    (((c = .timeLimitExpiry ∧ k.limitT ≠ some 0) ∨ (c = .stallTimerExpiry ∧ k.stallT ≠ some 0)
      ∨ (c = .latchTimerExpiry ∧ k.latchT ≠ some 0)) → exec c s = .next s)
    ∧ (((c = .timeLimitExpiry ∧ k.limitT = some 0 ∧ cause = .timeout)
      ∨ (c = .stallTimerExpiry ∧ k.stallT = some 0 ∧ cause = .stalled)
      ∨ (c = .latchTimerExpiry ∧ k.latchT = some 0 ∧ cause = .latch)) →
    ∃ u t, exec c s = .next t ∧ Settled u t ∧ Keeps s u ∧ u.se.stroke = none
      ∧ u.arb.holder = none ∧ u.se.drives[k.axis] = { level := 0, valve := .neutral, solenoid := false }
      ∧ (∀ a : AxisId, a ≠ k.axis → u.se.drives[a] = s.se.drives[a])
      ∧ (∀ j, j ≠ k.slot → u.slot j = s.slot j)
      ∧ ((cause = .latch ∨ st.acceptShort = false) →
          t.slot k.slot = endedRecord cause none { s.slot k.slot with run :=
            { (s.slot k.slot).run with
              lastMove := ((s.slot k.slot).curAxis.map fun a => (a, s.sensors[a].last)).or
                (s.slot k.slot).run.lastMove } })
      ∧ (cause ≠ .latch → st.acceptShort = true →
          StepCompletes s k.slot (withShortfall (withLastMove s (s.slot k.slot))) st u)
      ∧ (cause ≠ .latch → st.acceptShort = true → st.chain = false →
          (s.slot k.slot).block.rep ≠ .cycle →
          t.slot k.slot = endedRecord .normal none { s.slot k.slot with
            passCount := min 65535 ((s.slot k.slot).passCount + 1)
            run := { (s.slot k.slot).run with
              acceptShort := min 255 ((s.slot k.slot).run.acceptShort + 1)
              lastMove := ((s.slot k.slot).curAxis.map fun a => (a, s.sensors[a].last)).or
                (s.slot k.slot).run.lastMove } }))

/-- At the expiry of the Settle time the end is judged where the axis came to rest: OVER beyond Tb past
the target, LATCH for a door at Home whose switch reads released, SHORT more than Tb before it, else
ARRIVED. The grant is released; the sequence ends with that cause, or after ARRIVED, and after SHORT on a
step with the A flag, the step completes normally. Before its time an expiry changes nothing (DESIGN
CHOICE, log 4). -/
def Obligations.SettleExpiryJudgesTheEnd : Prop :=
  ∀ (s : State) (k : Stroke) (st : Machine.Step) (cause : EndCause),
    s.se.stroke = some k → s.arb.holder = some k.slot → (s.slot k.slot).curStep = some st →
    (k.settleT ≠ some 0 → exec .settleTimerExpiry s = .next s)
    ∧ (k.settleT = some 0 → ∃ u t, exec .settleTimerExpiry s = .next t ∧ Settled u t ∧ Keeps s u
      ∧ u.se.stroke = none ∧ u.arb.holder = none
      ∧ ((((s.axisCfg k.axis).tb : Int) < toGo k.dir k.t (s.lastPos k.axis) →
          latchMissing s k.axis k.t = false → st.acceptShort = true →
          StepCompletes s k.slot (withShortfall (withLastMove s (s.slot k.slot))) st u)
        ∧ (-((s.axisCfg k.axis).tb : Int) ≤ toGo k.dir k.t (s.lastPos k.axis) →
          toGo k.dir k.t (s.lastPos k.axis) ≤ ((s.axisCfg k.axis).tb : Int) →
          latchMissing s k.axis k.t = false →
          StepCompletes s k.slot (withLastMove s (s.slot k.slot)) st u)))
    ∧ (k.settleT = some 0 → ((toGo k.dir k.t (s.lastPos k.axis) < -((s.axisCfg k.axis).tb : Int) ∧ cause = .over)
      ∨ (-((s.axisCfg k.axis).tb : Int) ≤ toGo k.dir k.t (s.lastPos k.axis)
          ∧ latchMissing s k.axis k.t = true ∧ cause = .latch)
      ∨ (((s.axisCfg k.axis).tb : Int) < toGo k.dir k.t (s.lastPos k.axis)
          ∧ latchMissing s k.axis k.t = false ∧ st.acceptShort = false ∧ cause = .short)
      ∨ (-((s.axisCfg k.axis).tb : Int) ≤ toGo k.dir k.t (s.lastPos k.axis)
          ∧ toGo k.dir k.t (s.lastPos k.axis) ≤ ((s.axisCfg k.axis).tb : Int)
          ∧ latchMissing s k.axis k.t = false ∧ st.chain = false
          ∧ (s.slot k.slot).block.rep ≠ .cycle ∧ cause = .normal)) →
    ∃ u t, exec .settleTimerExpiry s = .next t ∧ Settled u t ∧ Keeps s u ∧ u.se.stroke = none
      ∧ u.arb.holder = none
      ∧ t.slot k.slot = endedRecord cause none { s.slot k.slot with
          passCount := if cause = .normal then min 65535 ((s.slot k.slot).passCount + 1)
            else (s.slot k.slot).passCount
          run := { (s.slot k.slot).run with
            lastMove := ((s.slot k.slot).curAxis.map fun a => (a, s.sensors[a].last)).or
              (s.slot k.slot).run.lastMove } })

/-- At the expiry of the ramp timer STOPPING ends: the axis rests, the grant is released, and the outcome
fixed at the start of the stop is acted on: the sequence ends with its cause, or the slot is queued again
at the front of its Class, or pauses for its lost owner, of which the stations are told. Before its time
an expiry changes nothing (DESIGN CHOICE, log 4). -/
def Obligations.RampExpiryActsOnTheOutcome : Prop :=
  ∀ (s : State) (k : Stroke), s.se.stroke = some k → s.arb.holder = some k.slot →
    (k.rampT ≠ some 0 → exec .rampTimerExpiry s = .next s)
    ∧ (k.rampT = some 0 → ∃ u t, exec .rampTimerExpiry s = .next t ∧ Settled u t ∧ Keeps s u ∧ u.se.stroke = none
      ∧ u.arb.holder = none ∧ u.se.drives[k.axis] = { level := 0, valve := .neutral, solenoid := false }
      ∧ (∀ j, j ≠ k.slot → u.slot j = s.slot j)
      ∧ (∀ cause, (s.slot k.slot).interrupted = false → (s.slot k.slot).lastEnd = some cause →
          t.slot k.slot = endedRecord cause none { s.slot k.slot with run :=
            { (s.slot k.slot).run with
              lastMove := ((s.slot k.slot).curAxis.map fun a => (a, s.sensors[a].last)).or
                (s.slot k.slot).run.lastMove } })
      ∧ ((s.slot k.slot).interrupted = true → (s.slot k.slot).ownerLost = false →
          (u.slot k.slot).state = .queued ∧ (u.slot k.slot).interrupted = true
          ∧ (u.slot k.slot).step = (s.slot k.slot).step
          ∧ u.sm.queue = insertFront s k.slot s.sm.queue)
      ∧ ((s.slot k.slot).interrupted = true → (s.slot k.slot).ownerLost = true →
          (t.slot k.slot).state = .paused ∧ (t.slot k.slot).pauseCause = some .ownerLost
          ∧ (t.slot k.slot).ownerLost = false ∧ (t.slot k.slot).interrupted = true
          ∧ SameNotices (toldPaused k.slot (s.slot k.slot) .ownerLost s) u))

/-- The effective windows never exceed the travel together, are the nominal ones where those fit,
and cover the whole travel where they do not. -/
def Obligations.EffectiveWindowsFitTheTravel : Prop :=
  ∀ ns nt d : Nat,
    (ns + nt ≤ d → effectiveWindows ns nt d = (ns, nt))
    ∧ (d < ns + nt →
        (effectiveWindows ns nt d).1 = d * ns / (ns + nt)
        ∧ (effectiveWindows ns nt d).1 + (effectiveWindows ns nt d).2 = d)
    ∧ (effectiveWindows ns nt d).1 ≤ ns ∧ (effectiveWindows ns nt d).1 ≤ d
    ∧ (effectiveWindows ns nt d).1 + (effectiveWindows ns nt d).2 ≤ d

/-- In DRIVING the level lies between Vmin and the ceiling; it is the ceiling outside both windows
and Vmin at the start of a soft-start window. -/
def Obligations.DriveLevelStaysWithinVminAndCeiling : Prop :=
  ∀ (x : AxisCfg) (k : Stroke) (p : Nat), x.vmin ≤ k.vc →
    x.vmin ≤ driveLevel x k p ∧ driveLevel x k p ≤ k.vc
    ∧ (k.ws ≤ min (gapOf p k.s) k.dist → k.we ≤ remaining k.dir k.t p → driveLevel x k p = k.vc)
    ∧ (p = k.s → 0 < k.ws → driveLevel x k p = x.vmin)

/-! ## Beacons -/

/-- At the end of the pre-warn time of a zone with intent, while another slot holds the grant, the zone is
WARNED if a beacon mapped to it has its lamp OK; else it stays WARNING with its pre-warn run out. With the
grant free and one slot waiting, eligible once the zone is WARNED, the slot is granted in that event: out
of the queue, ACTIVE, the holder, and, with the pump OFF and a travel beyond Tb, its stroke taken up in
PUMP_WAIT while the pump starts. Intent: a zone has it while a QUEUED slot's MOVE on an axis of the zone
passes the masks and the zone permit; its start puts a QUIET zone into WARNING with its pre-warn time, or
at a pre-warn time of 0 judges the lamps at once; its end returns a zone without a stroke to QUIET; and it
is derived anew at the end of every command that changes an input. Before its time an expiry changes
nothing (DESIGN CHOICE, log 4). -/
def Obligations.PreWarnExpiryWarnsTheZone : Prop :=
  ∀ (z : ZoneId) (s : State),
    (intentNow s z = true ↔ ∃ (i : SlotId) (st : Machine.Step) (a : AxisId),
      (s.slot i).state = .queued ∧ (s.slot i).curStep = some st ∧ st.action = .move
      ∧ (s.slot i).curAxis = some a ∧ s.axisZone a = some z ∧ motionReason s (s.slot i) st a = none)
    ∧ (deriveIntent s).zt.intent[z] = intentNow s z
    ∧ (intentNow s z = true → s.zt.intent[z] = false → s.bu.warns[z].state = .quiet →
      (s.cfg.zones[z].preWarn ≠ 0 → (deriveIntent s).bu.warns[z]
        = { state := .warning, preWarnT := some s.cfg.zones[z].preWarn, runOut := false })
      ∧ (s.cfg.zones[z].preWarn = 0 → (deriveIntent s).bu.warns[z] = (preWarnPassed z s).bu.warns[z]))
    ∧ (intentNow s z = true → (s.zt.intent[z] = true ∨ s.bu.warns[z].state ≠ .quiet) →
      (deriveIntent s).bu.warns[z] = s.bu.warns[z])
    ∧ (intentNow s z = false → hasStroke s z = false → s.bu.warns[z].state ≠ .quiet →
      (deriveIntent s).bu.warns[z] = { state := .quiet, preWarnT := none, runOut := false })
    ∧ (intentNow s z = false → hasStroke s z = true → (deriveIntent s).bu.warns[z] = s.bu.warns[z])
    ∧ (settle s).zt.intent[z] = intentNow (settle s) z
    ∧ (s.bu.warns[z].preWarnT ≠ some 0 → exec (.preWarnTimerExpiry z) s = .next s)
    ∧ (s.bu.warns[z].preWarnT = some 0 →
    (∀ (i : SlotId) (st : Machine.Step) (a : AxisId), s.arb.holder = none → s.zt.driveOff = false →
      roadSpeed s < 3 → s.sm.queue = [i] →
      (∃ b : BeaconId, maskHas s.cfg.beacons[b].mask z = true ∧ s.bu.beacons[b].lamp = .ok) →
      (s.slot i).curStep = some st → st.action = .move → (s.slot i).curAxis = some a →
      s.axisZone a = some z →
      eligible (modWarn z (fun _ => { state := .warned, preWarnT := none, runOut := false }) s) i
        = true →
      s.arb.pump = .off → (s.axisCfg a).tb < gapOf st.target (s.lastPos a) →
      ∃ t, exec (.preWarnTimerExpiry z) s = .next t ∧ Keeps s t
        ∧ t.bu.warns[z] = { state := .warned, preWarnT := none, runOut := false }
        ∧ t.slot i = { s.slot i with state := .active, interrupted := false } ∧ t.sm.queue = []
        ∧ (∀ j, j ≠ i → t.slot j = s.slot j)
        ∧ t.arb = { s.arb with holder := some i, pump := .starting, startT := some s.cfg.startLimit }
        ∧ t.se = { s.se with stroke := some (freshStroke i (s.slot i).step a) })
    ∧ ∀ h : SlotId, s.arb.holder = some h → NoDriveOffEntry s → intentNow s z = true →
    ∃ t, exec (.preWarnTimerExpiry z) s = .next t
      ∧ ((∃ b : BeaconId, maskHas s.cfg.beacons[b].mask z = true ∧ s.bu.beacons[b].lamp = .ok) →
          t.bu.warns[z] = { state := .warned, preWarnT := none, runOut := false })
      ∧ ((∀ b : BeaconId, maskHas s.cfg.beacons[b].mask z = true → s.bu.beacons[b].lamp = .failed) →
          t.bu.warns[z] = { state := .warning, preWarnT := none, runOut := true })
      ∧ t.sm = s.sm ∧ t.arb = s.arb ∧ t.se = s.se ∧ Keeps s t)

/-- A lamp reading that is due counts: the third low reading in a row makes the lamp FAILED and sets its
flag, the third good one makes it OK; a reading that is not due is disregarded (when one is due: DEDUCED,
log 21). While another slot holds the grant, a lamp that becomes OK brings each zone of its mask that waits
with its pre-warn run out, and has intent, into WARNED, and no other change of a lamp moves the warning
state of a zone with intent. -/
def Obligations.LampReadingsAreCounted : Prop :=
  ∀ (b : BeaconId) (ma : Nat) (s : State),
    (readingDue s b = false → exec (.lampReading b ma) s = .next s)
    ∧ (readingDue s b = true → ∃ t, exec (.lampReading b ma) s = .next t
      ∧ (ma < s.cfg.beacons[b].imin →
          t.bu.beacons[b].low = min 3 (s.bu.beacons[b].low + 1) ∧ t.bu.beacons[b].good = 0
          ∧ t.bu.beacons[b].lamp
              = (if 2 ≤ s.bu.beacons[b].low then .failed else s.bu.beacons[b].lamp)
          ∧ (2 ≤ s.bu.beacons[b].low → s.bu.beacons[b].lamp = .ok →
              flagIn t.faults (.lamp b) = true))
      ∧ (s.cfg.beacons[b].imin ≤ ma →
          t.bu.beacons[b].good = min 3 (s.bu.beacons[b].good + 1) ∧ t.bu.beacons[b].low = 0
          ∧ t.bu.beacons[b].lamp
              = (if 2 ≤ s.bu.beacons[b].good then .ok else s.bu.beacons[b].lamp))
      ∧ (∀ d : BeaconId, d ≠ b → t.bu.beacons[d].lamp = s.bu.beacons[d].lamp)
      ∧ (∀ (z : ZoneId) (h : SlotId), s.arb.holder = some h → NoDriveOffEntry s →
          intentNow s z = true → s.zt.intent[z] = true →
          t.bu.warns[z] = (if s.bu.beacons[b].lamp = .failed ∧ t.bu.beacons[b].lamp = .ok
              ∧ maskHas s.cfg.beacons[b].mask z = true ∧ s.bu.warns[z].state = .warning
              ∧ s.bu.warns[z].runOut = true then
            { state := .warned, preWarnT := none, runOut := false } else s.bu.warns[z]))
      ∧ (∀ i, (s.slot i).inert = true → t.slot i = s.slot i))

/-- At a flash edge every beacon is lit as its demand's pattern says at the phase, and the sounder is
driven in the first 500 ms of each second while its condition holds; only the lit marks and the sounder
change. The demand of a zone is the first of DRIVE-OFF, FAULT, WARNING, BLOCKED and OPEN whose condition
holds. At the end of every command that changes an input each beacon's demand is the most urgent among the
zones of its mask, or FAULT in CONFIG_FAULT. -/
def Obligations.FlashEdgeFollowsThePhase : Prop :=
  ∀ s : State,
    (∃ t, exec .flashEdge s = .next t
      ∧ t = { s with bu := { s.bu with beacons := t.bu.beacons, sounder := t.bu.sounder } }
      ∧ (∀ b : BeaconId, t.bu.beacons[b] = { s.bu.beacons[b] with
            lit := t.bu.beacons[b].lit, fullOn := t.bu.beacons[b].fullOn }
          ∧ (t.bu.beacons[b].lit = true ↔ s.parked = false
            ∧ ∃ p, patternOf s.cfg s.bu.beacons[b].demand = some p
              ∧ s.bu.phase % p.period < p.period * p.share / 100))
      ∧ (t.bu.sounder = true ↔ s.bu.phase % 1000 < 500 ∧ s.store.fault = false ∧ s.parked = false
          ∧ (s.zt.driveOff = true ∨ (∃ z : ZoneId, s.zt.blocks[z].state = .releasing)
            ∨ ∃ z : ZoneId, s.cfg.zones[z].sounderOnMotion = true ∧ zoneDemand s z = .warning)))
    ∧ (∀ z : ZoneId,
      (s.zt.driveOff = true → zoneDemand s z = .driveOff)
      ∧ (s.zt.driveOff = false →
        ((s.loop.state ≠ .ready ∨ ∃ a : AxisId, (s.axisCfg a).present = true
            ∧ s.axisZone a = some z ∧ s.sensors[a].state = .fault) → zoneDemand s z = .fault)
        ∧ (s.loop.state = .ready → (∀ a : AxisId, (s.axisCfg a).present = true →
              s.axisZone a = some z → s.sensors[a].state ≠ .fault) →
          zoneDemand s z = (
            if s.bu.warns[z].state ≠ .quiet ∨ s.zt.blocks[z].state = .releasing then .warning
            else if s.zt.blocks[z].state = .blocked then .blocked
            else if s.zt.position[z] = .opened then .opened else .none))))
    ∧ (∀ b : BeaconId,
      (s.store.fault = true → (settle s).bu.beacons[b].demand = .fault)
      ∧ (s.store.fault = false →
        (∀ z : ZoneId, maskHas s.cfg.beacons[b].mask z = true →
          (settle s).bu.beacons[b].demand.rank ≤ (zoneDemand (settle s) z).rank)
        ∧ ((settle s).bu.beacons[b].demand = .none ∨ ∃ z : ZoneId,
          maskHas s.cfg.beacons[b].mask z = true
          ∧ (settle s).bu.beacons[b].demand = zoneDemand (settle s) z)))

/-! ## The loop and the Fault Summary -/

/-- A channel that opens in READY trips the loop: TRIPPED, the discrepancy timer started where the
channels differ; the outputs inhibited, the level of every valve 0, its direction valve neutral and the
contactor off; the ALERT "loop" placed in every station's queue before any other notice of the trip; no
grant, no stroke, every drive at rest, the queue empty; the pump OFF unless it is in FAULT; and every slot
that runs ends EMERGENCY. The FREE and COMPLETED slots, the hold level and the blocks are left alone. -/
def Obligations.OpenChannelTripsTheLoop : Prop :=
  ∀ (ch : Channel) (s : State), s.parked = false → MotionInv s → s.loop.state = .ready →
    s.loop.closedA = true → s.loop.closedB = true →
    ∃ t, exec (.channelChange ch false) s = .next t
      ∧ t.loop = { s.loop with
          state := .tripped
          closedA := ch != .a
          closedB := ch != .b
          discT := some 200 }
      ∧ t.contactor = false
      ∧ (∀ a : AxisId, t.valveOutput a = 0 ∧ t.directionOutput a = .neutral)
      ∧ (∃ r, r = placeAll (.alert (.loop .tripped .ready t.loop.closedA t.loop.closedB none))
            { s with loop := t.loop }
          ∧ (∀ c : CrewId, QueueGrown r.crew[c].queue t.crew[c].queue)
          ∧ QueueGrown r.cab.queue t.cab.queue)
      ∧ t.arb.holder = none ∧ t.se.stroke = none ∧ t.sm.queue = []
      ∧ (∀ a : AxisId, t.se.drives[a] = { level := 0, valve := .neutral, solenoid := false })
      ∧ t.arb.pump = (if s.arb.pump = .fault then .fault else .off)
      ∧ (∀ i, (s.slot i).state = .free ∨ (s.slot i).state = .completed → t.slot i = s.slot i)
      ∧ (∀ i, (s.slot i).state = .queued ∨ (s.slot i).state = .paused ∨ (s.slot i).state = .dwelling →
          t.slot i = endedRecord .emergency none (s.slot i))
      ∧ (∀ i, (s.slot i).state = .active ∨ (s.slot i).state = .stopping →
          t.slot i = endedRecord .emergency none { s.slot i with run := { (s.slot i).run with
            lastMove := ((s.slot i).curAxis.map fun a => (a, s.sensors[a].last)).or
              (s.slot i).run.lastMove } })
      ∧ Keeps { s with loop := t.loop } t

/-- A change of a channel's reading outside READY: TRIPPED and both closed give CLOSED_WAIT; an open
channel in CLOSED_WAIT gives TRIPPED; LOOP_FAULT is left for CLOSED_WAIT only with both channels closed
after both were seen open, and the both-open mark is then cleared. In TRIPPED and CLOSED_WAIT the
discrepancy timer starts with 200 ms where the channels come to disagree, runs on where it runs already,
and is discarded where they agree; LOOP_FAULT does not use it. At its expiry the loop is in LOOP_FAULT
with its flag set and the mark clear. At each change of the loop state the ALERT "loop" goes to every
station. A reading that does not change is no event. Slots that neither wait for the grant nor hold it are
left alone. Before its time an expiry changes nothing (DESIGN CHOICE, log 4). -/
def Obligations.LoopStatesOutsideReady : Prop :=
  ∀ (ch : Channel) (closed : Bool) (s : State),
    (s.loop.reading ch = closed → exec (.channelChange ch closed) s = .next s)
    ∧ (s.parked = false → s.loop.state ≠ .ready → s.loop.reading ch ≠ closed →
      ∃ t, exec (.channelChange ch closed) s = .next t
        ∧ t.loop.closedA = (if ch = .a then closed else s.loop.closedA)
        ∧ t.loop.closedB = (if ch = .b then closed else s.loop.closedB)
        ∧ (s.loop.state = .tripped → t.loop.closedA = true → t.loop.closedB = true →
            t.loop.state = .closedWait)
        ∧ (s.loop.state = .tripped → (t.loop.closedA = false ∨ t.loop.closedB = false) →
            t.loop.state = .tripped)
        ∧ (s.loop.state = .closedWait → (t.loop.closedA = false ∨ t.loop.closedB = false) →
            t.loop.state = .tripped)
        ∧ (s.loop.state = .loopFault → t.loop.state =
            (if s.loop.bothOpen = true ∧ t.loop.closedA = true ∧ t.loop.closedB = true
              then .closedWait else .loopFault))
        ∧ (s.loop.state ≠ .loopFault → t.loop.bothOpen = s.loop.bothOpen
            ∧ t.loop.discT = (if t.loop.closedA = t.loop.closedB then none
              else if s.loop.discT = none then some 200 else s.loop.discT))
        ∧ (s.loop.state = .loopFault → t.loop.state = .loopFault → t.loop.discT = s.loop.discT
            ∧ t.loop.bothOpen = (s.loop.bothOpen || (!t.loop.closedA && !t.loop.closedB)))
        ∧ (s.loop.state = .loopFault → t.loop.state = .closedWait →
            t.loop.bothOpen = false ∧ t.loop.discT = none)
        ∧ (t.loop.state = s.loop.state → Settled { s with loop := t.loop } t)
        ∧ (t.loop.state ≠ s.loop.state → Settled
            (placeAll (.alert (.loop t.loop.state s.loop.state t.loop.closedA t.loop.closedB none))
              { s with loop := t.loop }) t)
        ∧ (∀ i, (s.slot i).inert = true → t.slot i = s.slot i)
        ∧ Keeps { s with loop := t.loop } t)
    ∧ (s.loop.discT ≠ some 0 → exec .discrepancyTimerExpiry s = .next s)
    ∧ (s.loop.discT = some 0 → ∃ t, exec .discrepancyTimerExpiry s = .next t
      ∧ t.loop = { s.loop with state := .loopFault, discT := none, bothOpen := false }
      ∧ flagIn t.faults .loop = true
      ∧ Settled (report .loop
          (placeAll (.alert (.loop .loopFault s.loop.state s.loop.closedA s.loop.closedB none))
            { s with loop := t.loop })) t
      ∧ Keeps { s with loop := t.loop } t
      ∧ (∀ i, (s.slot i).inert = true → t.slot i = s.slot i))

/-- Emergency Reset from the cab or a level-1 crew station returns the loop from CLOSED_WAIT to
READY, with the answer OK before the ALERT to every station, and judges RUN and STANDBY afresh; in
any other state it is refused WRONG_STATE, and from any other station NOT_PERMITTED. No sequence
resumes. -/
def Obligations.EmergencyResetNeedsClosedWait : Prop :=
  ∀ (src : Sender) (s : State), Reaches src s →
    ((src = .cab ∨ (s.store.fault = false ∧ levelOf s.cfg (senderStation src) = 1)) →
      (s.loop.state = .closedWait → ∃ u t, exec (.emergencyReset src) s = .next t
        ∧ u = { placeAll (.alert (.loop .ready .closedWait s.loop.closedA s.loop.closedB
              (some (senderStation src))))
            { answer (senderStation src) 13 .ok (.loop .ready) (requestTaken src s) with
              loop := { s.loop with state := .ready } } with sup := u.sup }
        ∧ u.sup = { s.sup with
            power := if s.sup.power = .parked then .parked
              else if runCondition s then .run else .standby
            standbyT := if s.sup.power = .run ∧ runCondition s = false then some 600000
              else if s.sup.power = .standby ∧ runCondition s = true then none
              else s.sup.standbyT }
        ∧ Settled u t
        ∧ t.loop = { s.loop with state := .ready }
        ∧ Keeps { requestTaken src s with loop := t.loop } t
        ∧ (∀ i, (s.slot i).inert = true → t.slot i = s.slot i))
      ∧ (s.loop.state ≠ .closedWait → exec (.emergencyReset src) s
          = .next (answered src 13 .wrongState (.loop s.loop.state) s)))
    ∧ (src ≠ .cab → (s.store.fault = true ∨ levelOf s.cfg (senderStation src) ≠ 1) →
        exec (.emergencyReset src) s
          = .next (answered src 13 .notPermitted (.loop s.loop.state) s))

/-- Clear Faults clears each flag it names whose clearing condition holds, and no other (a flag
NOTICES_LOST may be set again by its own answer); the answer OK carries the named flags still set and
the Fault Summary; clearing PUMP takes the pump from FAULT to OFF, and any other pump state is left as it
is. A map with a bit above 25 is refused BAD_FLAG. -/
def Obligations.ClearFaultsClearsTheNamedFlags : Prop :=
  ∀ (src : Sender) (map : BitVec 32) (s : State), Reaches src s →
    (map >>> 26 ≠ 0#32 →
      exec (.clearFaults src map) s = .next (answered src 14 .badFlag .none s))
    ∧ (map >>> 26 = 0#32 → ∃ u t, exec (.clearFaults src map) s = .next t
      ∧ (∃ (F : BitVec 32) (P : PumpState),
          (∀ f, flagIn F f = (flagIn s.faults f && !(flagIn map f && clearable s f)))
          ∧ P = (if flagIn map .pump = true ∧ flagIn s.faults .pump = true ∧ s.arb.pump = .fault
              then .off else s.arb.pump)
          ∧ u = answer (senderStation src) 14 .ok (.faults (map &&& F) F)
              { requestTaken src s with faults := F, arb := { s.arb with pump := P } })
      ∧ Settled u t
      ∧ (∀ f : Flag, (∀ st, f ≠ .noticesLost st) →
          flagIn t.faults f = (flagIn s.faults f && !(flagIn map f && clearable s f)))
      ∧ (t.arb.pump = .fault ↔
          (s.arb.pump = .fault ∧ (flagIn map .pump && flagIn s.faults .pump) = false))
      ∧ Keeps (requestTaken src s) t
      ∧ (∀ i, (s.slot i).inert = true → t.slot i = s.slot i))

/-! ## Supply, power and the configuration -/

/-- A battery measurement with the engine running changes only the line. With the engine off it times the
four conditions, and where they leave the supply state as it was it changes only the line and the start
times: so it is when none has held for 2000 ms. Below exhaustion, held for 2000 ms, gives EXHAUSTED, else
below normal REDUCED from NORMAL; above normal gives NORMAL, else above exhaustion REDUCED from EXHAUSTED.
A fall from NORMAL clamps a stroke under way to the CREEP ceiling: in DRIVING from where it is, with a new
limit running and the level set; in LATCH_WAIT from its own figures; a stroke in PUMP_WAIT or SETTLING is
left as it is. -/
def Obligations.BatteryMeasurementIsTimed : Prop :=
  ∀ (b : Nat) (s : State),
    (engineRunning s = true → exec (.batteryMeasurement b) s
        = .next { s with lines := { s.lines with battery := b } })
    ∧ (engineRunning s = false → ∃ t, exec (.batteryMeasurement b) s = .next t
      ∧ t.lines = { s.lines with battery := b }
      ∧ t.sup.belowNormal = (if b < s.cfg.tn then some (s.sup.belowNormal.getD s.clock) else none)
      ∧ t.sup.belowExh = (if b < s.cfg.tx then some (s.sup.belowExh.getD s.clock) else none)
      ∧ t.sup.aboveExh = (if s.cfg.tx + 4 ≤ b then some (s.sup.aboveExh.getD s.clock) else none)
      ∧ t.sup.aboveNormal
          = (if s.cfg.tn + 4 ≤ b then some (s.sup.aboveNormal.getD s.clock) else none)
      ∧ (s.cfg.tx ≤ s.cfg.tn → ∀ t0, t.sup.belowExh = some t0 → t0 + 2000 ≤ s.clock →
          t.sup.supply = .exhausted)
      ∧ (s.sup.supply = .normal → ¬ Held s.clock t.sup.belowExh → Held s.clock t.sup.belowNormal →
          t.sup.supply = .reduced)
      ∧ (s.sup.supply = .normal → ¬ Held s.clock t.sup.belowExh →
          ¬ Held s.clock t.sup.belowNormal → t.sup.supply = .normal)
      ∧ (s.cfg.tx ≤ s.cfg.tn → Held s.clock t.sup.aboveNormal → t.sup.supply = .normal)
      ∧ (s.sup.supply = .exhausted → ¬ Held s.clock t.sup.aboveNormal → Held s.clock t.sup.aboveExh →
          t.sup.supply = .reduced)
      ∧ (s.sup.supply = .reduced → ¬ Held s.clock t.sup.belowExh → ¬ Held s.clock t.sup.aboveNormal →
          t.sup.supply = .reduced)
      ∧ (s.sup.supply = .exhausted → ¬ Held s.clock t.sup.aboveNormal →
          ¬ Held s.clock t.sup.aboveExh → t.sup.supply = .exhausted)
      ∧ (∀ k, s.sup.supply = .normal → t.sup.supply ≠ .normal → s.se.stroke = some k →
          s.arb.holder = some k.slot → NoDriveOffEntry s →
          (k.phase = .driving → t.se = {
            drives := s.se.drives.set k.axis { s.se.drives[k.axis] with
              level := driveLevel (s.axisCfg k.axis) (clampedStroke s k) (s.lastPos k.axis) }
            stroke := some (clampedStroke s k) })
          ∧ (k.phase = .latchWait → t.se.drives = s.se.drives ∧ ∃ e,
              e = expectedTime (s.axisCfg k.axis) (s.axisCfg k.axis).creep k.ws k.we k.dist
              ∧ t.se.stroke = some { k with
                vc := (s.axisCfg k.axis).creep, expected := e
                limit := max 300 (min 60000 (e * s.cfg.margin / 100 + s.cfg.grace)) })
          ∧ (k.phase = .pumpWait ∨ k.phase = .settling → t.se = s.se))
      ∧ (t.sup.supply = s.sup.supply → t = { s with
          lines := { s.lines with battery := b }
          sup := { s.sup with
            belowNormal := t.sup.belowNormal, belowExh := t.sup.belowExh
            aboveExh := t.sup.aboveExh, aboveNormal := t.sup.aboveNormal } })
      ∧ t.sensors = s.sensors ∧ t.zt.blocks = s.zt.blocks ∧ t.loop = s.loop ∧ t.cfg = s.cfg
      ∧ (∀ i, (s.slot i).inert = true → t.slot i = s.slot i))

/-- The ignition line: its level is stored; outside PARKED a change of the ignition judges the power
state, RUN while the ignition is on, a slot is not FREE or a zone is OPEN, else STANDBY with its
timer of ten minutes started. Only the line and the power state change. In PARKED the line passing
to on wakes the part. -/
def Obligations.IgnitionChangeJudgesThePower : Prop :=
  ∀ (on : Bool) (s : State),
    (s.lines.ignition = on → exec (.ignitionLineChange on) s = .next s)
    ∧ (s.parked = true → s.lines.ignition = true →
        exec (.ignitionLineChange false) s = .next { s with lines := { s.lines with ignition := false } })
    ∧ (s.parked = true → s.lines.ignition = false → exec (.ignitionLineChange true) s
        = .next (wake { s with lines := { s.lines with ignition := true } }))
    ∧ (s.parked = false → s.lines.ignition ≠ on → ∃ t, exec (.ignitionLineChange on) s = .next t
      ∧ t = { s with lines := { s.lines with ignition := on }, sup := t.sup }
      ∧ t.sup = { s.sup with power := t.sup.power, standbyT := t.sup.standbyT }
      ∧ (on = true → ignitionOn s = false → t.sup.power = .run)
      ∧ (on = false → ignitionOn t = false → t.sup.power = (if runCondition t then .run else .standby))
      ∧ (s.sup.power = .run → t.sup.power = .standby → t.sup.standbyT = some 600000)
      ∧ (s.sup.power = .standby → t.sup.power = .run → t.sup.standbyT = none))

/-- At the expiry of the standby timer the part is PARKED: no enable is held, no watchdog and no Part
Status period runs, and every beacon and the sounder are dark. Before its time an expiry changes nothing
(DESIGN CHOICE, log 4). -/
def Obligations.StandbyExpiryParks : Prop :=
  ∀ s : State, (s.sup.standbyT ≠ some 0 → exec .standbyTimerExpiry s = .next s)
    ∧ (s.sup.standbyT = some 0 → ∃ t, exec .standbyTimerExpiry s = .next t
    ∧ t.sup.power = .parked ∧ t.sup.standbyT = none
    ∧ (∀ c : CrewId, t.crew[c].enable = false ∧ t.crew[c].link = s.crew[c].link)
    ∧ (∀ a : AxisId, t.sensors[a] = { s.sensors[a] with watchdog := none })
    ∧ t.tx.periodT = none
    ∧ (∀ b : BeaconId, t.bu.beacons[b].lit = false) ∧ t.bu.sounder = false
    ∧ t.zt.blocks = s.zt.blocks ∧ t.arb.hold = s.arb.hold ∧ t.loop = s.loop ∧ t.veh = s.veh
    ∧ t.lines = s.lines ∧ t.cfg = s.cfg ∧ t.store = s.store
    ∧ (∀ i, (s.slot i).inert = true → t.slot i = s.slot i))

/-- A latch switch's new reading is stored and the Position States are derived from it; a stroke
that waits for that door's latch drives once the switch reads released. A reading that does not
change is no event. -/
def Obligations.LatchSwitchIsRead : Prop :=
  ∀ (d : DoorId) (made : Bool) (s : State), s.parked = false →
    (s.lines.latchMade[d] = made → exec (.latchSwitchChange d made) s = .next s)
    ∧ (s.lines.latchMade[d] ≠ made → ∃ u t, exec (.latchSwitchChange d made) s = .next t
      ∧ Settled u t
      ∧ t.lines = { s.lines with latchMade := s.lines.latchMade.set d made }
      ∧ (∀ z : ZoneId, t.zt.position[z] = positionNow t z)
      ∧ Keeps { s with lines := t.lines, zt := { s.zt with position := t.zt.position } } t
      ∧ u.sm = s.sm ∧ u.arb = s.arb
      ∧ (∀ k, s.se.stroke = some k → k.phase = .latchWait → k.axis = doorAxis d → made = false →
          u.se.stroke = some { k with
            phase := .driving, limitT := some k.limit, elapsed := 0, latchT := none }
          ∧ u.se.drives[k.axis].solenoid = false ∧ u.se.drives[k.axis].valve = valveFor k.dir)
      ∧ ((∀ k, s.se.stroke = some k → k.phase ≠ .latchWait ∨ k.axis ≠ doorAxis d) ∨ made = true →
          u.se = s.se))

/-- Write Configuration is refused NOT_PERMITTED to a crew station, and BAD_REQUEST to the cab with a
record of another length than 393 bytes (DEDUCED, log 9). A record of that length is accepted only with no
write under way, every slot FREE, the loop READY, the power state RUN, the parking brake known applied,
and every field in its range; then programming begins, and no answer is placed yet. When programming ends
the store holds the new record. Outside CONFIG_FAULT it comes into force at once: a crew station newly
present is SEARCHING, one no longer present ABSENT, each with its enable released and its queue empty; the
sensor of an axis not present before and after is UNSYNCED; a lamp that is no longer checked is OK, and
every lamp count is 0; the four start times are none. In CONFIG_FAULT it waits for a Restart and changes
none of these. Then the answer OK is placed for the cab, with the new check value and the mark. The Block
Sets, the hold level and the loop are kept. -/
def Obligations.WriteConfigurationProgramsTheStore : Prop :=
  ∀ (record : List Byte) (s : State),
    (∀ c n, Reaches (.crew c n) s → exec (.writeConfiguration (.crew c n) record) s
        = .next (answered (.crew c n) 17 .notPermitted .none s))
    ∧ (Reaches .cab s → record.length ≠ 393 →
        exec (.writeConfiguration .cab record) s = .next (answered .cab 17 .badRequest .none s))
    ∧ (Reaches .cab s → s.store.programming ≠ none → record.length = 393 →
        exec (.writeConfiguration .cab record) s = .next (answered .cab 17 .busy .none s))
    ∧ (Reaches .cab s → record.length = 393 → s.store.programming = none →
        ((∃ i, (s.slot i).state ≠ .free) ∨ s.loop.state ≠ .ready ∨ s.sup.power ≠ .run
          ∨ s.fresh = false ∨ (∀ v, s.veh.status = some v → v.brake = false)) →
        exec (.writeConfiguration .cab record) s = .next (answered .cab 17 .wrongState .none s))
    ∧ (Reaches .cab s → record.length = 393 → s.store.programming = none →
        (∀ i, (s.slot i).state = .free) → s.loop.state = .ready → s.sup.power = .run →
        s.fresh = true → (∃ v, s.veh.status = some v ∧ v.brake = true) →
        (∀ k, rangeFailure record = some k → exec (.writeConfiguration .cab record) s
          = .next (answered .cab 17 .configRange (.field k) s))
        ∧ (rangeFailure record = none → ∃ t, exec (.writeConfiguration .cab record) s = .next t
          ∧ t = { s with store := { s.store with programming := some record }, tx := t.tx }))
    ∧ (s.store.programming = some record →
      ∃ u t, exec .writeConfigurationCompletion s = .next t
        ∧ Settled (answer 0 17 .ok (.written (carriedCheck record) s.store.fault) u) t
        ∧ u.cab = s.cab ∧ u.faults = s.faults ∧ u.sm = s.sm ∧ u.arb = s.arb ∧ u.se = s.se
        ∧ (s.store.fault = true → u = { s with store := t.store })
        ∧ (s.store.fault = false →
          (∀ c : CrewId, u.crew[c] = (
            if t.cfg.stations[c].present = false then
              { s.crew[c] with link := .absent, enable := false, queue := [] }
            else if s.crew[c].link = .absent then
              { s.crew[c] with link := .searching, miss := 0, good := 0, enable := false, queue := [] }
            else s.crew[c]))
          ∧ (∀ a : AxisId, u.sensors[a] = (
              if s.cfg.axes[a].present = true ∧ t.cfg.axes[a].present = true then s.sensors[a]
              else Sensor.unsynced))
          ∧ (∀ b : BeaconId, u.bu.beacons[b].low = 0 ∧ u.bu.beacons[b].good = 0
            ∧ u.bu.beacons[b].lamp = (if t.cfg.beacons[b].lampCheck then s.bu.beacons[b].lamp else .ok))
          ∧ u.sup = { u.sup with
              supply := s.sup.supply, belowNormal := none, belowExh := none, aboveExh := none
              aboveNormal := none })
        ∧ t.store = { bytes := record, torn := false, fault := s.store.fault, programming := none
                      rewritten := s.store.fault }
        ∧ t.cfg = (if s.store.fault then s.cfg else readCfg record)
        ∧ t.zt.blocks = s.zt.blocks ∧ t.arb.hold = s.arb.hold ∧ t.loop = s.loop ∧ t.veh = s.veh
        ∧ t.lines = s.lines ∧ t.sup.supply = s.sup.supply
        ∧ (∀ i, (s.slot i).inert = true → t.slot i = s.slot i))

/-- A start-up, at power-on and at a Restart accepted from the cab with every slot FREE, which finds the
lines at their standing levels (DEDUCED, log 17): every slot FREE, no block, no permit, no grant, no hold,
the pump OFF, every sensor UNSYNCED, every axis at rest, no enable; the loop, the supply and the flags
from the first readings; and the stored record in force if its check value agrees, else CONFIG_FAULT with
the CONFIG flag and the stand-in record of log 33 (DEDUCED). A Restart is refused NOT_PERMITTED to a crew
station, and to the cab BUSY while programming is in progress, and then WRONG_STATE while a slot is not
FREE; the refusal is only answered. -/
def Obligations.StartUpResetsThePart : Prop :=
  ∀ (c : Instr) (l : LineLevels) (s : State),
    ((c = .powerOn l
        ∨ (∃ b, c = .restart .cab b ∧ Reaches .cab s ∧ s.store.programming = none
            ∧ (∀ i, (s.slot i).state = .free)
            ∧ l = { closedA := s.loop.closedA, closedB := s.loop.closedB, battery := b
                    ignition := s.lines.ignition, latchMade := s.lines.latchMade })) →
      ∃ t, exec c s = .next t
        ∧ (∀ i, t.slot i = Slot.empty) ∧ t.sm.queue = []
        ∧ (∀ z : ZoneId, t.zt.blocks[z]
            = { set := Vector.replicate 7 false, state := .unblocked, releaseT := none })
        ∧ t.zt.permitT = none ∧ t.zt.driveOff = false
        ∧ t.arb = { holder := none, hold := .none, pump := .off, startT := none, runOnT := none
                    lossT := none }
        ∧ (∀ a : AxisId, t.sensors[a] = Sensor.unsynced ∧ t.se.drives[a] = Drive.rest)
        ∧ t.se.stroke = none
        ∧ (∀ z : ZoneId, t.bu.warns[z] = { state := .quiet, preWarnT := none, runOut := false })
        ∧ t.loop.state = (if l.closedA && l.closedB then .ready else .tripped)
        ∧ t.loop.discT = (if l.closedA = l.closedB then none else some 200)
        ∧ t.store.fault = !(!t.store.torn && checkPasses t.store.bytes)
        ∧ (s.store.programming = none → t.store.bytes = s.store.bytes)
        ∧ (s.store.programming ≠ none → t.store.fault = true)
        ∧ t.faults = (if t.store.fault then 4#32 else 0#32)
        ∧ t.cfg = (if t.store.fault then Cfg.inFault else readCfg t.store.bytes)
        ∧ t.sup.supply = (if t.cfg.tn ≤ l.battery then .normal
            else if t.cfg.tx ≤ l.battery then .reduced else .exhausted)
        ∧ (∀ k : CrewId, t.crew[k].enable = false ∧ t.crew[k].queue = []
            ∧ t.crew[k].link = (if t.cfg.stations[k].present then .searching else .absent))
        ∧ t.cab = { presenceT := none, staging := none, queue := [], next := 0 }
        ∧ t.veh = { status := none, freshT := none }
        ∧ t.lines = { battery := l.battery, ignition := l.ignition, latchMade := l.latchMade })
    ∧ (∀ k n b, Reaches (.crew k n) s → exec (.restart (.crew k n) b) s
        = .next (answered (.crew k n) 18 .notPermitted .none s))
    ∧ (∀ b, Reaches .cab s → s.store.programming ≠ none →
        exec (.restart .cab b) s = .next (answered .cab 18 .busy .none s))
    ∧ (∀ b, Reaches .cab s → s.store.programming = none → (∃ i, (s.slot i).state ≠ .free) →
        exec (.restart .cab b) s = .next (answered .cab 18 .wrongState .none s))

/-! ## The crew link -/

/-- A good reply: the miss count returns to 0 and the good count rises by one, up to 2; a station that is
not ONLINE becomes ONLINE at its second good reply in a row, with its count at 0 again; the enable is as
the reply says while the station is ONLINE, and not held otherwise; a notice the Poll carried leaves the
head of the queue. No other station's link changes. After that, and what follows from it, a request that
the reply carries is taken, as its bytes from the station with its number. Then the next Poll of the round
is sent, in PARKED none. That a good reply to the Poll still in progress in PARKED sets the enable and
hands its request on is the model's choice (DESIGN CHOICE, log 45). -/
def Obligations.GoodReplyCountsAndSetsTheEnable : Prop :=
  ∀ (frame : List Byte) (p : Poll) (f : ReplyFields) (s : State),
    awaiting s = some p → readReply p.station frame = some f →
    s.crew[p.station].link ≠ .absent →
    ∃ v w t, exec (.reply frame) s = .next t
      ∧ v.crew[p.station].miss = 0
      ∧ v.crew[p.station].good = (if s.crew[p.station].link ≠ .online
          ∧ 1 ≤ s.crew[p.station].good then 0 else min 2 (s.crew[p.station].good + 1))
      ∧ v.crew[p.station].link = (if s.crew[p.station].link = .online
          ∨ 1 ≤ s.crew[p.station].good then .online else s.crew[p.station].link)
      ∧ v.crew[p.station].enable = (f.enable && v.crew[p.station].link == .online)
      ∧ v.crew[p.station].lastTaken = s.crew[p.station].lastTaken
      ∧ (∀ c : CrewId, c ≠ p.station → v.crew[c].link = s.crew[c].link
          ∧ v.crew[c].enable = s.crew[c].enable ∧ v.crew[c].miss = s.crew[c].miss)
      ∧ (∀ m head rest, p.notice = some m → s.crew[p.station].queue = head :: rest →
          head.1 = m.1 → QueueGrown rest v.crew[p.station].queue)
      ∧ (∀ i, (s.slot i).inert = true → v.slot i = s.slot i)
      ∧ (∀ z : ZoneId, v.zt.intent[z] = intentNow v z)
      ∧ (f.body = [] → w = v)
      ∧ (f.body ≠ [] → exec (.undecodableRequest (.crew p.station f.number) f.body) v = .next w)
      ∧ Settled w { t with poll := w.poll } ∧ w.poll = s.poll
      ∧ PollFollows s.poll.last t

/-- A miss, at the expiry of the reply window or at a reply that is not good: the enable is not held, the
good count returns to 0 and the miss count rises by one, up to 3; at the third miss in a row an ONLINE
station is LOST, its miss count returns to 0, its notices are discarded, and its QUEUED slots are PAUSED
for the lost owner. A held enable that is so released interrupts an ACTIVE holder whose step bears H and
whose confirm station it is, by a controlled stop (Ts above 0); a LOST owner's slot is marked. Then the
next Poll of the round is sent. Before its time an expiry changes nothing (DESIGN CHOICE, log 4). -/
def Obligations.MissReleasesTheEnable : Prop :=
  ∀ (c : Instr) (p : Poll) (s : State), awaiting s = some p →
    (c = .replyWindowExpiry ∧ p.window = some 0 ∨ ∃ frame, c = .reply frame ∧ readReply p.station frame = none) →
    s.crew[p.station].link ≠ .absent →
    ∃ t, exec c s = .next t ∧ PollFollows s.poll.last t
      ∧ t.crew[p.station].enable = false ∧ t.crew[p.station].good = 0
      ∧ t.crew[p.station].miss = (if s.crew[p.station].link = .online
          ∧ 2 ≤ s.crew[p.station].miss then 0 else min 3 (s.crew[p.station].miss + 1))
      ∧ t.crew[p.station].link = (if s.crew[p.station].link = .online
          ∧ 2 ≤ s.crew[p.station].miss then .lost else s.crew[p.station].link)
      ∧ (t.crew[p.station].link ≠ .online → s.crew[p.station].link = .online →
          t.crew[p.station].queue = []
          ∧ ∀ i, (s.slot i).state = .queued → s.arb.holder ≠ some i →
              (s.slot i).owner = stationOf p.station →
              t.slot i = { s.slot i with
                state := .paused, pauseCause := some .ownerLost, ownerLost := false })
      ∧ (∀ i k st, s.crew[p.station].enable = true → s.arb.holder = some i →
          (s.slot i).state = .active → s.se.stroke = some k → k.slot = i →
          (s.axisCfg k.axis).ts ≠ 0 → (s.slot i).curStep = some st → st.holdToRun = true →
          (s.slot i).block.confirm = some p.station →
          t.slot i = { s.slot i with
            state := .stopping, interrupted := true
            ownerLost := (s.slot i).ownerLost
              || (s.crew[p.station].link == .online && t.crew[p.station].link == .lost
                && (s.slot i).owner == stationOf p.station) }
          ∧ t.arb.holder = some i ∧ t.se.stroke = some (stoppingStroke s k))
      ∧ (∀ d : CrewId, d ≠ p.station → t.crew[d].link = s.crew[d].link
          ∧ t.crew[d].enable = s.crew[d].enable ∧ t.crew[d].miss = s.crew[d].miss)

/-- At the end of a Poll the reply window of 10 ms begins; until it has passed its expiry changes nothing
(DESIGN CHOICE, log 4); a Reply or an expiry that no Poll awaits is disregarded (DEDUCED, log 22). -/
def Obligations.PollEndOpensTheReplyWindow : Prop :=
  ∀ s : State,
    (∀ p, s.poll.current = some p → p.window = none →
      exec .pollEnd s = .next { s with
        poll := { s.poll with current := some { p with window := some 10 } } })
    ∧ (∀ p, s.poll.current = some p → p.window ≠ some 0 → exec .replyWindowExpiry s = .next s)
    ∧ (awaiting s = none → exec .replyWindowExpiry s = .next s ∧ ∀ frame, exec (.reply frame) s = .next s)

/-! ## The Chassis Port -/

/-- A Cab Presence frame starts the presence timer with 1500 ms, whatever it carries, and changes nothing
else. At the expiry of the presence timer, and not before its time has passed (DESIGN CHOICE, log 4), the
cab is LOST: the staging buffer is EMPTY and its notices are discarded; a QUEUED slot of the cab is PAUSED
for the lost owner, of which its confirm station is told, and a DWELLING one is marked. -/
def Obligations.CabPresenceIsTimedAndLost : Prop :=
  ∀ (data : List Byte) (s : State),
    (s.parked = false → exec (.cabPresence data) s
      = .next { s with cab := { s.cab with presenceT := some 1500 } })
    ∧ (s.cab.presenceT ≠ some 0 → exec .presenceTimerExpiry s = .next s)
    ∧ (s.cab.presenceT = some 0 → ∃ u t, exec .presenceTimerExpiry s = .next t ∧ Settled u t
      ∧ t.cab = { s.cab with presenceT := none, staging := none, queue := [] }
      ∧ (∀ i, (s.slot i).owner = 0 → (s.slot i).state = .queued → s.arb.holder ≠ some i →
          t.slot i = { s.slot i with
            state := .paused, pauseCause := some .ownerLost, ownerLost := false })
      ∧ (∀ i, (s.slot i).owner = 0 → (s.slot i).state = .dwelling →
          t.slot i = { s.slot i with ownerLost := true })
      ∧ (∀ i, (s.slot i).owner = 0 → (s.slot i).state = .queued →
          (∀ j, j ≠ i → (s.slot j).owner = 0 → (s.slot j).state ≠ .queued) →
          SameNotices (toldPaused i (s.slot i) .ownerLost { s with cab := t.cab }) u)
      ∧ (∀ i, (s.slot i).inert = true → ((s.slot i).owner ≠ 0 ∨ (s.slot i).state ≠ .dwelling) →
          t.slot i = s.slot i)
      ∧ Keeps { s with cab := t.cab } t)

/-- The staging buffer: a first segment with a Submit or a Write Configuration of an admitted length
begins a run, and any other is refused LENGTH; a data segment with the index expected adds its six bytes,
and the last one hands the whole request to its owner; a wrong index, a short data segment and the expiry
of the gap timer end the run with SEGMENT, and so does a new first segment, which is then taken as from
EMPTY; a data segment that finds the buffer EMPTY is disregarded. Bytes behind the fourth of a first
segment and behind the seventh of a data segment are disregarded (DEDUCED, in part DESIGN CHOICE, log 35);
a data segment that is short fails LENGTH whatever its index (DESIGN CHOICE, log 28). Before its time an
expiry changes nothing (DESIGN CHOICE, log 4). -/
def Obligations.SegmentsAreGathered : Prop :=
  ∀ (data : List Byte) (s : State),
    (Reaches .cab s → s.cab.staging = none → 4 ≤ data.length → 0 < u16 data 2 →
      ((data.getD 1 0 = 1 ∧ u16 data 2 ≤ 156) ∨ (data.getD 1 0 = 17 ∧ u16 data 2 ≤ 576)) →
      exec (.firstSegment data) s = .next { s with cab := { s.cab with
        staging := some (Staging.mk (data.getD 1 0) (u16 data 2) [] 1 1000) } })
    ∧ (Reaches .cab s → s.cab.staging = none →
      (data.length < 4 ∨ (data.getD 1 0 ≠ 1 ∧ data.getD 1 0 ≠ 17) ∨ u16 data 2 = 0
        ∨ (data.getD 1 0 = 1 ∧ 156 < u16 data 2) ∨ (data.getD 1 0 = 17 ∧ 576 < u16 data 2)) →
      exec (.firstSegment data) s
        = .next (answered .cab (data.getD 1 0) .segment (.segment (data.getD 1 0) .length) s))
    ∧ (∀ g, Reaches .cab s → s.cab.staging = some g →
      exec (.firstSegment data) s = exec (.firstSegment data)
        (answered .cab g.kind .segment (.segment g.kind .newFirst)
          { s with cab := { s.cab with staging := none } }))
    ∧ (Reaches .cab s → s.cab.staging = none → exec (.dataSegment data) s = .next s)
    ∧ (∀ g, Reaches .cab s → s.cab.staging = some g → 7 ≤ data.length →
      (data.getD 0 0).toNat = g.next → g.next < dataFrames g.total →
      exec (.dataSegment data) s = .next { s with cab := { s.cab with
        staging := some { g with
          bytes := g.bytes ++ (data.drop 1).take 6, next := g.next + 1, gapT := 1000 } } })
    ∧ (∀ g, Reaches .cab s → s.cab.staging = some g → 7 ≤ data.length →
      (data.getD 0 0).toNat = g.next → g.next = dataFrames g.total →
      exec (.dataSegment data) s = exec
        (if g.kind = 1 then .submit .cab ((g.bytes ++ (data.drop 1).take 6).take g.total)
          else .writeConfiguration .cab ((g.bytes ++ (data.drop 1).take 6).take g.total))
        { s with cab := { s.cab with staging := none } })
    ∧ (∀ g, Reaches .cab s → s.cab.staging = some g → 7 ≤ data.length →
      (data.getD 0 0).toNat ≠ g.next →
      exec (.dataSegment data) s = .next (answered .cab g.kind .segment (.segment g.kind .wrongIndex)
        { s with cab := { s.cab with staging := none } }))
    ∧ (∀ g, Reaches .cab s → s.cab.staging = some g → data.length < 7 →
      exec (.dataSegment data) s = .next (answered .cab g.kind .segment (.segment g.kind .length)
        { s with cab := { s.cab with staging := none } }))
    ∧ (∀ g, s.cab.staging = some g → g.gapT ≠ 0 → exec .gapTimerExpiry s = .next s)
    ∧ (∀ g, s.cab.staging = some g → g.gapT = 0 →
      exec .gapTimerExpiry s = .next (answered .cab g.kind .segment (.segment g.kind .gap)
        { s with cab := { s.cab with staging := none } }))

/-- A frame that is acknowledged moves the run on; after the last frame of a notice the notice leaves the
head of the cab queue; an abandoned run ends with its current frame and leaves the queue alone. At the end
of a run a due Part Status is sent before the next notice (one that is due waits in PARKED, and notices
are sent in PARKED too: DEDUCED, log 31). A frame that is not acknowledged is sent again, also of an
abandoned run (DEDUCED, log 18). At the end of each Part Status period, and not before (DESIGN CHOICE, log
4), the period starts again and a Part Status is due; a free transmitter outside PARKED begins it at once,
composed now and numbered with its own count, which rises as the run begins (DESIGN CHOICE, log 44). -/
def Obligations.TransmitterSendsRunsInOrder : Prop :=
  ∀ s : State,
    (∀ r : TxRun, s.tx.run = some r →
      exec (.canFrameTransmitted false) s = .next s
      ∧ (r.abandoned = false → r.atLast = false → exec (.canFrameTransmitted true) s
          = .next { s with tx := { s.tx with run := some { r with index := r.index + 1 } } })
      ∧ (r.abandoned = true ∨ r.atLast = true → ∃ t, exec (.canFrameTransmitted true) s = .next t
          ∧ t = { s with cab := { s.cab with queue := t.cab.queue }, tx := t.tx }
          ∧ (r.abandoned = true → t.cab.queue = s.cab.queue)
          ∧ (∀ n rest, r.abandoned = false → r.content = .notice n →
              s.cab.queue = (r.number, n) :: rest → t.cab.queue = rest)
          ∧ (∀ summary alert faults, r.content = .partStatus summary alert faults →
              t.cab.queue = s.cab.queue)
          ∧ (s.tx.due = true → s.parked = false → t.tx = { s.tx with
              run := some (TxRun.mk (.partStatus (summaryOf s) s.zt.driveOff s.faults) s.tx.count
                s.cfg.canBase 0 false)
              due := false, count := s.tx.count + 1 })
          ∧ (s.tx.due = false ∨ s.parked = true → t.tx = { s.tx with
              run := t.cab.queue.head?.map (fun m =>
                TxRun.mk (.notice m.2) m.1 s.cfg.canBase 0 false) })))
    ∧ (s.tx.periodT ≠ some 0 → exec .partStatusPeriodExpiry s = .next s)
    ∧ (s.tx.periodT = some 0 →
      (s.tx.run ≠ none → exec .partStatusPeriodExpiry s
        = .next { s with tx := { s.tx with due := true, periodT := some 200 } })
      ∧ (s.tx.run = none → s.parked = false → exec .partStatusPeriodExpiry s
        = .next { s with tx := { s.tx with
            run := some (TxRun.mk (.partStatus (summaryOf s) s.zt.driveOff s.faults) s.tx.count
              s.cfg.canBase 0 false)
            due := false, count := s.tx.count + 1, periodT := some 200 } }))

/-- A frame whose identifier is none of the received kinds, an 11-bit frame and a remote frame are
disregarded outside PARKED; a frame of each of the four received kinds is taken by its kind (DESIGN
CHOICE, log 6): Chassis Status, Cab Presence, the bytes of a Cab Request, and a first or a data
segment. -/
def Obligations.OtherIdentifierIsDisregarded : Prop :=
  ∀ (ident : CanIdent) (data : List Byte) (s : State), s.parked = false →
    ((ident.extended = false ∨ ident.remote = true ∨ ident.value < s.cfg.canBase
        ∨ s.cfg.canBase + 3 < ident.value) →
      exec (.otherIdentifierFrame ident data) s = .next s)
    ∧ (ident.extended = true → ident.remote = false → ident.value = s.cfg.canBase →
      exec (.otherIdentifierFrame ident data) s = exec (.chassisStatus data) s)
    ∧ (ident.extended = true → ident.remote = false → ident.value = s.cfg.canBase + 1 →
      exec (.otherIdentifierFrame ident data) s = exec (.cabPresence data) s)
    ∧ (ident.extended = true → ident.remote = false → ident.value = s.cfg.canBase + 2 →
      exec (.otherIdentifierFrame ident data) s = exec (.undecodableRequest .cab data) s)
    ∧ (ident.extended = true → ident.remote = false → ident.value = s.cfg.canBase + 3 →
      exec (.otherIdentifierFrame ident data) s
        = exec (if data.head? = some 0 then .firstSegment data else .dataSegment data) s)

/-- At the expiry of its dwell timer, and not before its time has passed (DESIGN CHOICE, log 4), a DWELL
completes normally: a last step not CYCLE ends the sequence NORMAL with the pass counted; a chained next
step becomes current: for a lost owner or with P it pauses the slot, a MOVE is queued at the front of its
Class, a DWELL's timer starts. At a CYCLE pass end the pass is counted; with the flag still set the
sequence ends PASS_UNCLEARED; else the flag is set, the owner is told, and step 1 becomes current, a MOVE
at the tail of the queue. Other slots that neither wait for the grant nor hold it are left alone. -/
def Obligations.DwellExpiryCompletesTheStep : Prop :=
  ∀ (i : SlotId) (s : State) (st : Machine.Step),
    ((s.slot i).dwellT ≠ some 0 → exec (.dwellTimerExpiry i) s = .next s)
    ∧ ((s.slot i).dwellT = some 0 → (s.slot i).curStep = some st → s.arb.holder ≠ some i →
      ∃ u t, exec (.dwellTimerExpiry i) s = .next t ∧ Settled u t ∧ Keeps s u
        ∧ (∀ j, j ≠ i → u.slot j = s.slot j)
        ∧ (∀ j, j ≠ i → (s.slot j).inert = true → t.slot j = s.slot j)
        ∧ StepCompletes s i { s.slot i with dwellT := none } st u
        ∧ (st.chain = false → (s.slot i).block.rep ≠ .cycle →
            t.slot i = endedRecord .normal none
              { s.slot i with passCount := min 65535 ((s.slot i).passCount + 1) })
        ∧ (∀ nxt, st.chain = true → (s.slot i).nextStep = some nxt → (s.slot i).ownerLost = false →
            nxt.pause = true →
            t.slot i = { s.slot i with
              state := .paused, pauseCause := some .step, step := (s.slot i).step + 1
              interrupted := false, dwellT := none })
        ∧ (st.chain = false → (s.slot i).block.rep = .cycle → (s.slot i).flag = true →
            t.slot i = endedRecord .passUncleared none
              { s.slot i with passCount := min 65535 ((s.slot i).passCount + 1) }))
end

