-- ==== Sys2Proof/Laws/State.lean ====
section
/-! SUPPORT. What each single-record update changes, field by field, and the entries of an updated
table. No later proof unfolds a record update. -/

namespace Sys2Proof.Machine

/-! ## Entries of a table -/

/-- The entry that was replaced. -/
@[simp] theorem upd_same {α : Type} {n : Nat} (v : Vector α n) (i : Fin n) (f : α → α) :
    (upd v i f)[i.val] = f v[i.val] := by
  simp [upd]

/-- Every other entry. -/
theorem upd_ne {α : Type} {n : Nat} (v : Vector α n) {i j : Fin n} (f : α → α) (h : i ≠ j) :
    (upd v i f)[j.val] = v[j.val] := by
  simp [upd, Fin.val_ne_of_ne h]

/-- An entry of an updated table. -/
theorem upd_get {α : Type} {n : Nat} (v : Vector α n) (i j : Fin n) (f : α → α) :
    (upd v i f)[j.val] = if i = j then f v[j.val] else v[j.val] := by
  split
  · subst_vars; simp
  · exact upd_ne v f ‹_›

/-! ## Fields -/

section ModSlot
variable (s : State) (i : SlotId) (f : Slot → Slot)
@[simp] theorem modSlot_pending : (modSlot i f s).pending = s.pending := rfl
@[simp] theorem modSlot_clock : (modSlot i f s).clock = s.clock := rfl
@[simp] theorem modSlot_free : (modSlot i f s).free = s.free := rfl
@[simp] theorem modSlot_sm : (modSlot i f s).sm = { s.sm with slots := upd s.sm.slots i f } := rfl
@[simp] theorem modSlot_zt : (modSlot i f s).zt = s.zt := rfl
@[simp] theorem modSlot_arb : (modSlot i f s).arb = s.arb := rfl
@[simp] theorem modSlot_sensors : (modSlot i f s).sensors = s.sensors := rfl
@[simp] theorem modSlot_se : (modSlot i f s).se = s.se := rfl
@[simp] theorem modSlot_bu : (modSlot i f s).bu = s.bu := rfl
@[simp] theorem modSlot_loop : (modSlot i f s).loop = s.loop := rfl
@[simp] theorem modSlot_faults : (modSlot i f s).faults = s.faults := rfl
@[simp] theorem modSlot_crew : (modSlot i f s).crew = s.crew := rfl
@[simp] theorem modSlot_poll : (modSlot i f s).poll = s.poll := rfl
@[simp] theorem modSlot_veh : (modSlot i f s).veh = s.veh := rfl
@[simp] theorem modSlot_cab : (modSlot i f s).cab = s.cab := rfl
@[simp] theorem modSlot_tx : (modSlot i f s).tx = s.tx := rfl
@[simp] theorem modSlot_sup : (modSlot i f s).sup = s.sup := rfl
@[simp] theorem modSlot_lines : (modSlot i f s).lines = s.lines := rfl
@[simp] theorem modSlot_cfg : (modSlot i f s).cfg = s.cfg := rfl
@[simp] theorem modSlot_store : (modSlot i f s).store = s.store := rfl
end ModSlot

section SetQueue
variable (s : State) (q : List SlotId)
@[simp] theorem setQueue_pending : (setQueue q s).pending = s.pending := rfl
@[simp] theorem setQueue_clock : (setQueue q s).clock = s.clock := rfl
@[simp] theorem setQueue_free : (setQueue q s).free = s.free := rfl
@[simp] theorem setQueue_sm : (setQueue q s).sm = { s.sm with queue := q } := rfl
@[simp] theorem setQueue_zt : (setQueue q s).zt = s.zt := rfl
@[simp] theorem setQueue_arb : (setQueue q s).arb = s.arb := rfl
@[simp] theorem setQueue_sensors : (setQueue q s).sensors = s.sensors := rfl
@[simp] theorem setQueue_se : (setQueue q s).se = s.se := rfl
@[simp] theorem setQueue_bu : (setQueue q s).bu = s.bu := rfl
@[simp] theorem setQueue_loop : (setQueue q s).loop = s.loop := rfl
@[simp] theorem setQueue_faults : (setQueue q s).faults = s.faults := rfl
@[simp] theorem setQueue_crew : (setQueue q s).crew = s.crew := rfl
@[simp] theorem setQueue_poll : (setQueue q s).poll = s.poll := rfl
@[simp] theorem setQueue_veh : (setQueue q s).veh = s.veh := rfl
@[simp] theorem setQueue_cab : (setQueue q s).cab = s.cab := rfl
@[simp] theorem setQueue_tx : (setQueue q s).tx = s.tx := rfl
@[simp] theorem setQueue_sup : (setQueue q s).sup = s.sup := rfl
@[simp] theorem setQueue_lines : (setQueue q s).lines = s.lines := rfl
@[simp] theorem setQueue_cfg : (setQueue q s).cfg = s.cfg := rfl
@[simp] theorem setQueue_store : (setQueue q s).store = s.store := rfl
end SetQueue

section ModDrive
variable (s : State) (a : AxisId) (f : Drive → Drive)
@[simp] theorem modDrive_pending : (modDrive a f s).pending = s.pending := rfl
@[simp] theorem modDrive_clock : (modDrive a f s).clock = s.clock := rfl
@[simp] theorem modDrive_free : (modDrive a f s).free = s.free := rfl
@[simp] theorem modDrive_sm : (modDrive a f s).sm = s.sm := rfl
@[simp] theorem modDrive_zt : (modDrive a f s).zt = s.zt := rfl
@[simp] theorem modDrive_arb : (modDrive a f s).arb = s.arb := rfl
@[simp] theorem modDrive_sensors : (modDrive a f s).sensors = s.sensors := rfl
@[simp] theorem modDrive_se : (modDrive a f s).se =
    { s.se with drives := upd s.se.drives a f } := rfl
@[simp] theorem modDrive_bu : (modDrive a f s).bu = s.bu := rfl
@[simp] theorem modDrive_loop : (modDrive a f s).loop = s.loop := rfl
@[simp] theorem modDrive_faults : (modDrive a f s).faults = s.faults := rfl
@[simp] theorem modDrive_crew : (modDrive a f s).crew = s.crew := rfl
@[simp] theorem modDrive_poll : (modDrive a f s).poll = s.poll := rfl
@[simp] theorem modDrive_veh : (modDrive a f s).veh = s.veh := rfl
@[simp] theorem modDrive_cab : (modDrive a f s).cab = s.cab := rfl
@[simp] theorem modDrive_tx : (modDrive a f s).tx = s.tx := rfl
@[simp] theorem modDrive_sup : (modDrive a f s).sup = s.sup := rfl
@[simp] theorem modDrive_lines : (modDrive a f s).lines = s.lines := rfl
@[simp] theorem modDrive_cfg : (modDrive a f s).cfg = s.cfg := rfl
@[simp] theorem modDrive_store : (modDrive a f s).store = s.store := rfl
end ModDrive

section SetStroke
variable (s : State) (k : Option Stroke)
@[simp] theorem setStroke_pending : (setStroke k s).pending = s.pending := rfl
@[simp] theorem setStroke_clock : (setStroke k s).clock = s.clock := rfl
@[simp] theorem setStroke_free : (setStroke k s).free = s.free := rfl
@[simp] theorem setStroke_sm : (setStroke k s).sm = s.sm := rfl
@[simp] theorem setStroke_zt : (setStroke k s).zt = s.zt := rfl
@[simp] theorem setStroke_arb : (setStroke k s).arb = s.arb := rfl
@[simp] theorem setStroke_sensors : (setStroke k s).sensors = s.sensors := rfl
@[simp] theorem setStroke_se : (setStroke k s).se = { s.se with stroke := k } := rfl
@[simp] theorem setStroke_bu : (setStroke k s).bu = s.bu := rfl
@[simp] theorem setStroke_loop : (setStroke k s).loop = s.loop := rfl
@[simp] theorem setStroke_faults : (setStroke k s).faults = s.faults := rfl
@[simp] theorem setStroke_crew : (setStroke k s).crew = s.crew := rfl
@[simp] theorem setStroke_poll : (setStroke k s).poll = s.poll := rfl
@[simp] theorem setStroke_veh : (setStroke k s).veh = s.veh := rfl
@[simp] theorem setStroke_cab : (setStroke k s).cab = s.cab := rfl
@[simp] theorem setStroke_tx : (setStroke k s).tx = s.tx := rfl
@[simp] theorem setStroke_sup : (setStroke k s).sup = s.sup := rfl
@[simp] theorem setStroke_lines : (setStroke k s).lines = s.lines := rfl
@[simp] theorem setStroke_cfg : (setStroke k s).cfg = s.cfg := rfl
@[simp] theorem setStroke_store : (setStroke k s).store = s.store := rfl
end SetStroke

section ModWarn
variable (s : State) (z : ZoneId) (f : Warn → Warn)
@[simp] theorem modWarn_pending : (modWarn z f s).pending = s.pending := rfl
@[simp] theorem modWarn_clock : (modWarn z f s).clock = s.clock := rfl
@[simp] theorem modWarn_free : (modWarn z f s).free = s.free := rfl
@[simp] theorem modWarn_sm : (modWarn z f s).sm = s.sm := rfl
@[simp] theorem modWarn_zt : (modWarn z f s).zt = s.zt := rfl
@[simp] theorem modWarn_arb : (modWarn z f s).arb = s.arb := rfl
@[simp] theorem modWarn_sensors : (modWarn z f s).sensors = s.sensors := rfl
@[simp] theorem modWarn_se : (modWarn z f s).se = s.se := rfl
@[simp] theorem modWarn_bu : (modWarn z f s).bu = { s.bu with warns := upd s.bu.warns z f } := rfl
@[simp] theorem modWarn_loop : (modWarn z f s).loop = s.loop := rfl
@[simp] theorem modWarn_faults : (modWarn z f s).faults = s.faults := rfl
@[simp] theorem modWarn_crew : (modWarn z f s).crew = s.crew := rfl
@[simp] theorem modWarn_poll : (modWarn z f s).poll = s.poll := rfl
@[simp] theorem modWarn_veh : (modWarn z f s).veh = s.veh := rfl
@[simp] theorem modWarn_cab : (modWarn z f s).cab = s.cab := rfl
@[simp] theorem modWarn_tx : (modWarn z f s).tx = s.tx := rfl
@[simp] theorem modWarn_sup : (modWarn z f s).sup = s.sup := rfl
@[simp] theorem modWarn_lines : (modWarn z f s).lines = s.lines := rfl
@[simp] theorem modWarn_cfg : (modWarn z f s).cfg = s.cfg := rfl
@[simp] theorem modWarn_store : (modWarn z f s).store = s.store := rfl
end ModWarn

section ModBlocks
variable (s : State) (z : ZoneId) (f : ZoneBlocks → ZoneBlocks)
@[simp] theorem modBlocks_pending : (modBlocks z f s).pending = s.pending := rfl
@[simp] theorem modBlocks_clock : (modBlocks z f s).clock = s.clock := rfl
@[simp] theorem modBlocks_free : (modBlocks z f s).free = s.free := rfl
@[simp] theorem modBlocks_sm : (modBlocks z f s).sm = s.sm := rfl
@[simp] theorem modBlocks_zt : (modBlocks z f s).zt =
    { s.zt with blocks := upd s.zt.blocks z f } := rfl
@[simp] theorem modBlocks_arb : (modBlocks z f s).arb = s.arb := rfl
@[simp] theorem modBlocks_sensors : (modBlocks z f s).sensors = s.sensors := rfl
@[simp] theorem modBlocks_se : (modBlocks z f s).se = s.se := rfl
@[simp] theorem modBlocks_bu : (modBlocks z f s).bu = s.bu := rfl
@[simp] theorem modBlocks_loop : (modBlocks z f s).loop = s.loop := rfl
@[simp] theorem modBlocks_faults : (modBlocks z f s).faults = s.faults := rfl
@[simp] theorem modBlocks_crew : (modBlocks z f s).crew = s.crew := rfl
@[simp] theorem modBlocks_poll : (modBlocks z f s).poll = s.poll := rfl
@[simp] theorem modBlocks_veh : (modBlocks z f s).veh = s.veh := rfl
@[simp] theorem modBlocks_cab : (modBlocks z f s).cab = s.cab := rfl
@[simp] theorem modBlocks_tx : (modBlocks z f s).tx = s.tx := rfl
@[simp] theorem modBlocks_sup : (modBlocks z f s).sup = s.sup := rfl
@[simp] theorem modBlocks_lines : (modBlocks z f s).lines = s.lines := rfl
@[simp] theorem modBlocks_cfg : (modBlocks z f s).cfg = s.cfg := rfl
@[simp] theorem modBlocks_store : (modBlocks z f s).store = s.store := rfl
end ModBlocks

section SetPermit
variable (s : State) (t : Timer)
@[simp] theorem setPermit_pending : (setPermit t s).pending = s.pending := rfl
@[simp] theorem setPermit_clock : (setPermit t s).clock = s.clock := rfl
@[simp] theorem setPermit_free : (setPermit t s).free = s.free := rfl
@[simp] theorem setPermit_sm : (setPermit t s).sm = s.sm := rfl
@[simp] theorem setPermit_zt : (setPermit t s).zt = { s.zt with permitT := t } := rfl
@[simp] theorem setPermit_arb : (setPermit t s).arb = s.arb := rfl
@[simp] theorem setPermit_sensors : (setPermit t s).sensors = s.sensors := rfl
@[simp] theorem setPermit_se : (setPermit t s).se = s.se := rfl
@[simp] theorem setPermit_bu : (setPermit t s).bu = s.bu := rfl
@[simp] theorem setPermit_loop : (setPermit t s).loop = s.loop := rfl
@[simp] theorem setPermit_faults : (setPermit t s).faults = s.faults := rfl
@[simp] theorem setPermit_crew : (setPermit t s).crew = s.crew := rfl
@[simp] theorem setPermit_poll : (setPermit t s).poll = s.poll := rfl
@[simp] theorem setPermit_veh : (setPermit t s).veh = s.veh := rfl
@[simp] theorem setPermit_cab : (setPermit t s).cab = s.cab := rfl
@[simp] theorem setPermit_tx : (setPermit t s).tx = s.tx := rfl
@[simp] theorem setPermit_sup : (setPermit t s).sup = s.sup := rfl
@[simp] theorem setPermit_lines : (setPermit t s).lines = s.lines := rfl
@[simp] theorem setPermit_cfg : (setPermit t s).cfg = s.cfg := rfl
@[simp] theorem setPermit_store : (setPermit t s).store = s.store := rfl
end SetPermit

section SetHold
variable (s : State) (l : HoldLevel)
@[simp] theorem setHold_pending : (setHold l s).pending = s.pending := rfl
@[simp] theorem setHold_clock : (setHold l s).clock = s.clock := rfl
@[simp] theorem setHold_free : (setHold l s).free = s.free := rfl
@[simp] theorem setHold_sm : (setHold l s).sm = s.sm := rfl
@[simp] theorem setHold_zt : (setHold l s).zt = s.zt := rfl
@[simp] theorem setHold_arb : (setHold l s).arb = { s.arb with hold := l } := rfl
@[simp] theorem setHold_sensors : (setHold l s).sensors = s.sensors := rfl
@[simp] theorem setHold_se : (setHold l s).se = s.se := rfl
@[simp] theorem setHold_bu : (setHold l s).bu = s.bu := rfl
@[simp] theorem setHold_loop : (setHold l s).loop = s.loop := rfl
@[simp] theorem setHold_faults : (setHold l s).faults = s.faults := rfl
@[simp] theorem setHold_crew : (setHold l s).crew = s.crew := rfl
@[simp] theorem setHold_poll : (setHold l s).poll = s.poll := rfl
@[simp] theorem setHold_veh : (setHold l s).veh = s.veh := rfl
@[simp] theorem setHold_cab : (setHold l s).cab = s.cab := rfl
@[simp] theorem setHold_tx : (setHold l s).tx = s.tx := rfl
@[simp] theorem setHold_sup : (setHold l s).sup = s.sup := rfl
@[simp] theorem setHold_lines : (setHold l s).lines = s.lines := rfl
@[simp] theorem setHold_cfg : (setHold l s).cfg = s.cfg := rfl
@[simp] theorem setHold_store : (setHold l s).store = s.store := rfl
end SetHold

section ModCrew
variable (s : State) (c : CrewId) (f : Crew → Crew)
@[simp] theorem modCrew_pending : (modCrew c f s).pending = s.pending := rfl
@[simp] theorem modCrew_clock : (modCrew c f s).clock = s.clock := rfl
@[simp] theorem modCrew_free : (modCrew c f s).free = s.free := rfl
@[simp] theorem modCrew_sm : (modCrew c f s).sm = s.sm := rfl
@[simp] theorem modCrew_zt : (modCrew c f s).zt = s.zt := rfl
@[simp] theorem modCrew_arb : (modCrew c f s).arb = s.arb := rfl
@[simp] theorem modCrew_sensors : (modCrew c f s).sensors = s.sensors := rfl
@[simp] theorem modCrew_se : (modCrew c f s).se = s.se := rfl
@[simp] theorem modCrew_bu : (modCrew c f s).bu = s.bu := rfl
@[simp] theorem modCrew_loop : (modCrew c f s).loop = s.loop := rfl
@[simp] theorem modCrew_faults : (modCrew c f s).faults = s.faults := rfl
@[simp] theorem modCrew_crew : (modCrew c f s).crew = upd s.crew c f := rfl
@[simp] theorem modCrew_poll : (modCrew c f s).poll = s.poll := rfl
@[simp] theorem modCrew_veh : (modCrew c f s).veh = s.veh := rfl
@[simp] theorem modCrew_cab : (modCrew c f s).cab = s.cab := rfl
@[simp] theorem modCrew_tx : (modCrew c f s).tx = s.tx := rfl
@[simp] theorem modCrew_sup : (modCrew c f s).sup = s.sup := rfl
@[simp] theorem modCrew_lines : (modCrew c f s).lines = s.lines := rfl
@[simp] theorem modCrew_cfg : (modCrew c f s).cfg = s.cfg := rfl
@[simp] theorem modCrew_store : (modCrew c f s).store = s.store := rfl
end ModCrew

section SetSensor
variable (s : State) (a : AxisId) (x : Sensor)
@[simp] theorem setSensor_pending : (setSensor a x s).pending = s.pending := rfl
@[simp] theorem setSensor_clock : (setSensor a x s).clock = s.clock := rfl
@[simp] theorem setSensor_free : (setSensor a x s).free = s.free := rfl
@[simp] theorem setSensor_sm : (setSensor a x s).sm = s.sm := rfl
@[simp] theorem setSensor_zt : (setSensor a x s).zt = s.zt := rfl
@[simp] theorem setSensor_arb : (setSensor a x s).arb = s.arb := rfl
@[simp] theorem setSensor_sensors : (setSensor a x s).sensors = upd s.sensors a fun _ => x := rfl
@[simp] theorem setSensor_se : (setSensor a x s).se = s.se := rfl
@[simp] theorem setSensor_bu : (setSensor a x s).bu = s.bu := rfl
@[simp] theorem setSensor_loop : (setSensor a x s).loop = s.loop := rfl
@[simp] theorem setSensor_faults : (setSensor a x s).faults = s.faults := rfl
@[simp] theorem setSensor_crew : (setSensor a x s).crew = s.crew := rfl
@[simp] theorem setSensor_poll : (setSensor a x s).poll = s.poll := rfl
@[simp] theorem setSensor_veh : (setSensor a x s).veh = s.veh := rfl
@[simp] theorem setSensor_cab : (setSensor a x s).cab = s.cab := rfl
@[simp] theorem setSensor_tx : (setSensor a x s).tx = s.tx := rfl
@[simp] theorem setSensor_sup : (setSensor a x s).sup = s.sup := rfl
@[simp] theorem setSensor_lines : (setSensor a x s).lines = s.lines := rfl
@[simp] theorem setSensor_cfg : (setSensor a x s).cfg = s.cfg := rfl
@[simp] theorem setSensor_store : (setSensor a x s).store = s.store := rfl
end SetSensor

section SetStaging
variable (s : State) (g : Option Staging)
@[simp] theorem setStaging_pending : (setStaging g s).pending = s.pending := rfl
@[simp] theorem setStaging_clock : (setStaging g s).clock = s.clock := rfl
@[simp] theorem setStaging_free : (setStaging g s).free = s.free := rfl
@[simp] theorem setStaging_sm : (setStaging g s).sm = s.sm := rfl
@[simp] theorem setStaging_zt : (setStaging g s).zt = s.zt := rfl
@[simp] theorem setStaging_arb : (setStaging g s).arb = s.arb := rfl
@[simp] theorem setStaging_sensors : (setStaging g s).sensors = s.sensors := rfl
@[simp] theorem setStaging_se : (setStaging g s).se = s.se := rfl
@[simp] theorem setStaging_bu : (setStaging g s).bu = s.bu := rfl
@[simp] theorem setStaging_loop : (setStaging g s).loop = s.loop := rfl
@[simp] theorem setStaging_faults : (setStaging g s).faults = s.faults := rfl
@[simp] theorem setStaging_crew : (setStaging g s).crew = s.crew := rfl
@[simp] theorem setStaging_poll : (setStaging g s).poll = s.poll := rfl
@[simp] theorem setStaging_veh : (setStaging g s).veh = s.veh := rfl
@[simp] theorem setStaging_cab : (setStaging g s).cab = { s.cab with staging := g } := rfl
@[simp] theorem setStaging_tx : (setStaging g s).tx = s.tx := rfl
@[simp] theorem setStaging_sup : (setStaging g s).sup = s.sup := rfl
@[simp] theorem setStaging_lines : (setStaging g s).lines = s.lines := rfl
@[simp] theorem setStaging_cfg : (setStaging g s).cfg = s.cfg := rfl
@[simp] theorem setStaging_store : (setStaging g s).store = s.store := rfl
end SetStaging

section Report
variable (s : State) (f : Flag)
@[simp] theorem report_pending : (report f s).pending = s.pending := rfl
@[simp] theorem report_clock : (report f s).clock = s.clock := rfl
@[simp] theorem report_free : (report f s).free = s.free := rfl
@[simp] theorem report_sm : (report f s).sm = s.sm := rfl
@[simp] theorem report_zt : (report f s).zt = s.zt := rfl
@[simp] theorem report_arb : (report f s).arb = s.arb := rfl
@[simp] theorem report_sensors : (report f s).sensors = s.sensors := rfl
@[simp] theorem report_se : (report f s).se = s.se := rfl
@[simp] theorem report_bu : (report f s).bu = s.bu := rfl
@[simp] theorem report_loop : (report f s).loop = s.loop := rfl
@[simp] theorem report_faults : (report f s).faults = raiseFlag f s.faults := rfl
@[simp] theorem report_crew : (report f s).crew = s.crew := rfl
@[simp] theorem report_poll : (report f s).poll = s.poll := rfl
@[simp] theorem report_veh : (report f s).veh = s.veh := rfl
@[simp] theorem report_cab : (report f s).cab = s.cab := rfl
@[simp] theorem report_tx : (report f s).tx = s.tx := rfl
@[simp] theorem report_sup : (report f s).sup = s.sup := rfl
@[simp] theorem report_lines : (report f s).lines = s.lines := rfl
@[simp] theorem report_cfg : (report f s).cfg = s.cfg := rfl
@[simp] theorem report_store : (report f s).store = s.store := rfl
end Report

section PollEnded
variable (s : State) (p : Poll)
@[simp] theorem pollEnded_pending : (pollEnded p s).pending = s.pending := rfl
@[simp] theorem pollEnded_clock : (pollEnded p s).clock = s.clock := rfl
@[simp] theorem pollEnded_free : (pollEnded p s).free = s.free := rfl
@[simp] theorem pollEnded_sm : (pollEnded p s).sm = s.sm := rfl
@[simp] theorem pollEnded_zt : (pollEnded p s).zt = s.zt := rfl
@[simp] theorem pollEnded_arb : (pollEnded p s).arb = s.arb := rfl
@[simp] theorem pollEnded_sensors : (pollEnded p s).sensors = s.sensors := rfl
@[simp] theorem pollEnded_se : (pollEnded p s).se = s.se := rfl
@[simp] theorem pollEnded_bu : (pollEnded p s).bu = s.bu := rfl
@[simp] theorem pollEnded_loop : (pollEnded p s).loop = s.loop := rfl
@[simp] theorem pollEnded_faults : (pollEnded p s).faults = s.faults := rfl
@[simp] theorem pollEnded_crew : (pollEnded p s).crew = s.crew := rfl
@[simp] theorem pollEnded_poll : (pollEnded p s).poll =
    { s.poll with current := some { p with window := some replyWindowMs } } := rfl
@[simp] theorem pollEnded_veh : (pollEnded p s).veh = s.veh := rfl
@[simp] theorem pollEnded_cab : (pollEnded p s).cab = s.cab := rfl
@[simp] theorem pollEnded_tx : (pollEnded p s).tx = s.tx := rfl
@[simp] theorem pollEnded_sup : (pollEnded p s).sup = s.sup := rfl
@[simp] theorem pollEnded_lines : (pollEnded p s).lines = s.lines := rfl
@[simp] theorem pollEnded_cfg : (pollEnded p s).cfg = s.cfg := rfl
@[simp] theorem pollEnded_store : (pollEnded p s).store = s.store := rfl
end PollEnded

/-! ## Slots -/

/-- The slot that was replaced. -/
@[simp] theorem slot_modSlot_same (i : SlotId) (f : Slot → Slot) (s : State) :
    (modSlot i f s).slot i = f (s.slot i) := by simp [State.slot]

/-- Every other slot. -/
theorem slot_modSlot_ne {i j : SlotId} (f : Slot → Slot) (s : State) (h : i ≠ j) :
    (modSlot i f s).slot j = s.slot j := by simp [State.slot, upd_ne _ f h]

/-- A slot after a slot was replaced. -/
theorem slot_modSlot (i j : SlotId) (f : Slot → Slot) (s : State) :
    (modSlot i f s).slot j = if i = j then f (s.slot j) else s.slot j := by
  simp [State.slot, upd_get]

/-- Slots do not depend on the queue. -/
@[simp] theorem slot_setQueue (q : List SlotId) (s : State) (j : SlotId) :
    (setQueue q s).slot j = s.slot j := rfl

/-- States with the same Slot Table have the same slots. -/
theorem slot_congr {s t : State} (h : t.sm.slots = s.sm.slots) (j : SlotId) :
    t.slot j = s.slot j := by simp [State.slot, h]

end Sys2Proof.Machine
end

