-- ==== Sys2Proof/Laws/Reactions.lean ====
section
/-! SUPPORT. Once for every relation between states: what holds of each small update a reaction makes
holds of the whole reaction. `SlotReaction i R` lists the updates an operation on slot `i` is made of;
each shared operation on a slot has one lemma. `Closing R` lists what the closing of a command is made
of; `Closing.settle` is its lemma. -/

namespace Sys2Proof.Machine

/-- A queue whose entries other than `i` are those of another. -/
def SameOthers (i : SlotId) (q r : List SlotId) : Prop := ∀ j, j ≠ i → (j ∈ r ↔ j ∈ q)

/-- The relation holds of each small update that an operation on slot `i` makes. -/
structure SlotReaction (i : SlotId) (R : State → State → Prop) : Prop where
  refl : ∀ s, R s s
  trans : ∀ {s t u}, R s t → R t u → R s u
  slot : ∀ f s, R s (modSlot i f s)
  queue : ∀ q s, SameOthers i s.sm.queue q → R s (setQueue q s)
  place : ∀ st n s, R s (place st n s)
  holder : ∀ h s, R s { s with arb := { s.arb with holder := h } }
  pump : ∀ (a : Arbiter) s, a.hold = s.arb.hold → (a.pump = .fault ↔ s.arb.pump = .fault) →
    R s { s with arb := a }
  drive : ∀ a f s, R s (modDrive a f s)
  stroke : ∀ k s, R s (setStroke k s)
  power : ∀ p t s, R s { s with sup := { s.sup with power := p, standbyT := t } }

namespace SlotReaction

variable {i : SlotId} {R : State → State → Prop} (h : SlotReaction i R)
include h

/-! ## The Sequence Manager -/

theorem leaveQueue (s : State) : R s (leaveQueue i s) :=
  h.queue _ s fun j hj => by simp [hj]

omit h in
theorem mem_insertFront (s : State) (q : List SlotId) (j : SlotId) :
    j ∈ insertFront s i q ↔ j = i ∨ j ∈ q := by
  induction q with
  | nil => simp [insertFront]
  | cons x q ih =>
    unfold insertFront
    split
    · simp
    · simp [ih]; tauto

theorem enqueue (front : Bool) (s : State) : R s (enqueue front i s) := by
  refine h.trans (h.queue (if front then insertFront s i s.sm.queue else s.sm.queue ++ [i]) s ?_)
    (h.slot _ _)
  intro j hj
  split
  · simp [mem_insertFront, hj]
  · simp [hj]

theorem judgePower (s : State) : R s (judgePower s) := by
  unfold Machine.judgePower
  split
  · exact h.refl s
  · split
    · exact h.refl s
    · exact h.power _ _ s
  · split
    · exact h.power _ _ s
    · exact h.refl s

theorem releaseGrant (s : State) : R s (releaseGrant i s) := by
  unfold Machine.releaseGrant
  split
  · exact h.trans (h.holder none s) (h.slot _ _)
  · exact h.refl s

theorem progress (d : StationId) (j : SlotId) (p : Progress) (s : State) : R s (progress d j p s) :=
  h.place d _ s

theorem pausedNotice (c : PauseCause) (s : State) : R s (pausedNotice i c s) := by
  unfold Machine.pausedNotice
  dsimp only
  split
  · exact h.progress _ i _ s
  · split
    · exact h.progress _ i _ s
    · exact h.trans (h.progress _ i _ s) (h.progress _ i _ _)

theorem pauseSlot (c : PauseCause) (s : State) : R s (pauseSlot i c s) :=
  h.trans (h.slot _ s) (h.pausedNotice c _)

theorem strand (s : State) : R s (strand i s) := h.slot _ s

theorem freeSlot (s : State) : R s (freeSlot i s) := h.trans (h.slot _ s) (h.judgePower _)

theorem dispose (s : State) : R s (dispose i s) := by
  unfold Machine.dispose
  split
  · exact h.freeSlot s
  · exact h.slot _ s
  · exact h.slot _ s

theorem seqEnd (c : EndCause) (w : Option WaitReason) (s : State) : R s (seqEnd i c w s) := by
  unfold Machine.seqEnd
  exact h.trans (h.slot _ s) <| h.trans (h.leaveQueue _) <| h.trans (h.slot _ _) <|
    h.trans (h.releaseGrant _) <| h.trans (h.slot _ _) <| h.trans (h.place _ _ _) <|
    h.trans (h.slot _ _) (h.dispose _)

section Steps
variable {next : SlotId → Bool → State → State} (hn : ∀ b s, R s (next i b s))
include hn

theorem passEnd (s : State) : R s (passEnd next i s) := by
  unfold Machine.passEnd
  dsimp only
  split
  · exact h.trans (h.slot _ s) (h.seqEnd _ _ _)
  · exact h.trans (h.slot _ s) <| h.trans (h.slot _ _) <| h.trans (h.progress _ i _ _) <|
      h.trans (h.slot _ _) (hn _ _)

theorem completeStep (s : State) : R s (completeStep next i s) := by
  unfold Machine.completeStep
  split
  · exact h.trans (h.slot _ s) (hn _ _)
  · split
    · exact h.passEnd hn s
    · exact h.trans (h.slot _ s) (h.seqEnd _ _ _)

theorem startStep (chained : Bool) (s : State) : R s (startStep next i chained s) := by
  unfold Machine.startStep
  split
  · exact h.strand s
  · rename_i st _
    have hs : R s (if st.notify then Machine.progress (s.slot i).owner i .stepStarted s else s) := by
      split
      · exact h.progress _ i _ s
      · exact h.refl s
    dsimp only
    refine h.trans hs ?_
    generalize (if st.notify then Machine.progress (s.slot i).owner i .stepStarted s else s) = u
    split
    · exact h.enqueue _ _
    · exact h.slot _ _
    · split
      · exact h.completeStep hn _
      · exact h.seqEnd _ _ _

end Steps

theorem becomeCurrent (n : Nat) : ∀ (chained : Bool) (s : State), R s (becomeCurrent n i chained s) := by
  induction n with
  | zero => exact fun _ s => h.strand s
  | succ n ih =>
    intro chained s
    unfold Machine.becomeCurrent
    refine h.trans (h.slot (fun x => { x with interrupted := false }) s) ?_
    dsimp only
    split
    · exact h.pauseSlot _ _
    · split
      · exact h.pauseSlot _ _
      · exact h.startStep ih chained _

theorem makeCurrent (chained : Bool) (s : State) : R s (makeCurrent i chained s) :=
  h.becomeCurrent _ chained s

theorem stepDone (s : State) : R s (stepDone i s) := h.completeStep (h.becomeCurrent _) s

theorem resumeStep (s : State) : R s (resumeStep i s) :=
  h.trans (h.slot _ s) (h.startStep (h.becomeCurrent _) false _)

/-! ## The pump and the strokes -/

theorem startRunOn (s : State) (hf : s.arb.pump ≠ .fault) : R s (startRunOn s) := by
  unfold Machine.startRunOn
  split
  · exact h.pump { s.arb with pump := .off, runOnT := none } s rfl (by simp [hf])
  · exact h.pump { s.arb with runOnT := some (runOnInForce s) } s rfl Iff.rfl

theorem flowBegins (s : State) : R s (flowBegins s) := by
  unfold Machine.flowBegins
  split
  · rename_i hp
    exact h.pump { s.arb with pump := .flowing, runOnT := none } s rfl (by simp [hp])
  · exact h.refl s

theorem flowEnds (s : State) : R s (flowEnds s) := by
  unfold Machine.flowEnds
  split
  · rename_i hp
    exact h.trans (h.pump { s.arb with pump := .ready, lossT := none } s rfl (by simp [hp]))
      (h.startRunOn _ (by simp))
  · exact h.refl s

theorem dropStroke (s : State) : R s (dropStroke s) := by
  unfold Machine.dropStroke
  split
  · exact h.refl s
  · exact h.trans (h.drive _ _ s) <| h.trans (h.flowEnds _) (h.stroke _ _)

theorem strokeEnds (e : StrokeEnd) (s : State) : R s (strokeEnds i e s) := by
  unfold Machine.strokeEnds
  refine h.trans (h.dropStroke s) ?_
  dsimp only
  split
  · exact h.trans (h.releaseGrant _) (h.stepDone _)
  · split
    · exact h.trans (h.releaseGrant _) <| h.trans (h.slot _ _) (h.stepDone _)
    · exact h.seqEnd _ _ _

theorem markJoinDropped (s : State) : R s (markJoinDropped i s) := h.slot _ s

theorem zeroTravel {k : Stroke} (hk : k.slot = i) (t : Nat) (s : State) :
    R s (zeroTravel k t s) := by
  unfold Machine.zeroTravel
  rw [hk]
  dsimp only
  split
  · exact h.trans (h.markJoinDropped s) (h.strokeEnds _ _)
  · exact h.strokeEnds _ _

theorem beginDriving (k : Stroke) (p : Nat) (s : State) : R s (beginDriving k p s) :=
  h.trans (h.drive _ _ s) (h.stroke _ _)

theorem beginLatchWait (k : Stroke) (s : State) : R s (beginLatchWait k s) :=
  h.trans (h.drive _ _ s) (h.stroke _ _)

omit h in
theorem planStroke_slot (s : State) (k : Stroke) (x : Slot) (st : Step) (b : Bool) (p : Nat) :
    (planStroke s k x st b p).slot = k.slot := rfl

omit h in
theorem planStroke_axis (s : State) (k : Stroke) (x : Slot) (st : Step) (b : Bool) (p : Nat) :
    (planStroke s k x st b p).axis = k.axis := rfl

theorem strokeStarts {k : Stroke} (hk : k.slot = i) (s : State) : R s (strokeStarts k s) := by
  unfold Machine.strokeStarts
  split
  · exact h.refl s
  · rename_i st _
    dsimp only
    split
    · exact h.zeroTravel hk _ s
    · have hk' := planStroke_slot s k (s.slot k.slot) st false (s.lastPos k.axis)
      generalize planStroke s k (s.slot k.slot) st false (s.lastPos k.axis) = k' at hk' ⊢
      have hs : R s (if k'.join = .dropped then Machine.markJoinDropped k'.slot s else s) := by
        rw [hk', hk]
        split
        · exact h.markJoinDropped s
        · exact h.refl s
      refine h.trans hs ?_
      generalize (if k'.join = .dropped then Machine.markJoinDropped k'.slot s else s) = u
      refine h.trans ?_ (h.flowBegins _)
      split
      · exact h.beginLatchWait _ _
      · exact h.beginDriving _ _ _

theorem pumpReady (s : State) (hk : ∀ k, s.se.stroke = some k → k.slot = i) :
    R s (pumpReady s) := by
  unfold Machine.pumpReady
  split
  · rename_i k hs
    split
    · exact h.strokeStarts (hk k hs) s
    · exact h.refl s
  · exact h.refl s

theorem demandFlow (s : State) (hk : ∀ k, s.se.stroke = some k → k.slot = i) :
    R s (demandFlow s) := by
  unfold Machine.demandFlow
  split
  · rename_i hp
    exact h.pump { s.arb with pump := .starting, startT := some s.cfg.startLimit } s rfl (by simp [hp])
  · exact h.pumpReady s hk
  · exact h.refl s

theorem beginSettling {k : Stroke} (hk : k.slot = i) (s : State) : R s (beginSettling k s) := by
  unfold Machine.beginSettling
  dsimp only
  rw [hk]
  split
  · exact h.trans (h.drive _ _ s) <| h.trans (h.flowEnds _) <| h.trans (h.stroke _ _)
      (h.strokeEnds _ _)
  · exact h.trans (h.drive _ _ s) <| h.trans (h.flowEnds _) (h.stroke _ _)

theorem stopEnds {k : Stroke} (hk : k.slot = i) (s : State) : R s (stopEnds k s) := by
  unfold Machine.stopEnds
  rw [hk]
  refine h.trans (h.dropStroke s) <| h.trans (h.releaseGrant _) ?_
  dsimp only
  split
  · split
    · exact h.pauseSlot _ _
    · exact h.enqueue _ _
  · exact h.seqEnd _ _ _

theorem controlledStop (o : StopOutcome) (s : State) (hh : s.arb.holder = some i) :
    R s (controlledStop o s) := by
  unfold Machine.controlledStop
  rw [hh]
  split
  · rename_i j k hj _
    obtain rfl : i = j := by simpa using hj
    dsimp only
    split
    · rename_i hk
      have hr (k' : Stroke) : R s (setStroke (some k') (modDrive k.axis
          (fun x => { x with solenoid := false }) (modSlot i (fixOutcome o) s))) :=
        h.trans (h.slot _ s) <| h.trans (h.drive _ _ _) (h.stroke _ _)
      split
      · exact h.trans (hr _) (h.stopEnds hk.2 _)
      · exact hr _
    · exact h.refl s
  · exact h.refl s

theorem takeUp (s : State) : R s (takeUp i s) := by
  unfold Machine.takeUp
  split
  · rename_i st a _ _
    refine h.trans (h.stroke (some (freshStroke i (s.slot i).step a)) s) ?_
    dsimp only
    split
    · exact h.zeroTravel rfl _ _
    · refine h.demandFlow _ fun k hk => ?_
      simp only [setStroke_se, Option.some.injEq] at hk
      subst hk
      rfl
  · exact h.refl s

theorem grant (s : State) : R s (grant i s) :=
  h.trans (h.leaveQueue s) <| h.trans (h.slot _ _) <| h.trans (h.holder (some i) _) (h.takeUp _)

end SlotReaction

/-! ## The closing of a command -/

/-- The relation holds of each update the closing of a command makes after the judgement of
Drive-Off. -/
structure Closing (R : State → State → Prop) : Prop where
  refl : ∀ s, R s s
  trans : ∀ {s t u}, R s t → R t u → R s u
  grant : ∀ i s, grantChoice s = some i → R s (grant i s)
  intent : ∀ v s, R s { s with zt := { s.zt with intent := v } }
  warn : ∀ z f s, R s (modWarn z f s)
  beacons : ∀ f s, (∀ b (x : Beacon), (f b x).lamp = x.lamp ∧ (f b x).low = x.low
    ∧ (f b x).good = x.good) → R s (mapBeacons f s)
  sound : ∀ s, R s (soundNow s)
  send : ∀ s, R s (sendNext s)

namespace Closing

variable {R : State → State → Prop} (h : Closing R)
include h

theorem foldl {α : Type} {f : State → α → State} (hf : ∀ s x, R s (f s x)) (l : List α) (s : State) :
    R s (l.foldl f s) := by
  induction l generalizing s with
  | nil => exact h.refl s
  | cons x l ih => exact h.trans (hf s x) (ih (f s x))

theorem preWarnPassed (z : ZoneId) (s : State) : R s (preWarnPassed z s) := by
  unfold Machine.preWarnPassed; split <;> exact h.warn z _ s

theorem intentStart (z : ZoneId) (s : State) : R s (intentStart z s) := by
  unfold Machine.intentStart
  split
  · split
    · exact h.preWarnPassed z s
    · exact h.warn z _ s
  · exact h.refl s

theorem quietJudge (z : ZoneId) (s : State) : R s (quietJudge z s) := by
  unfold Machine.quietJudge
  split
  · exact h.warn z _ s
  · exact h.refl s

theorem deriveIntent1 (s : State) (z : ZoneId) : R s (deriveIntent1 s z) := by
  have key : ∀ (c : Bool) (u : State),
      R u (Machine.quietJudge z (if c = true then Machine.intentStart z u else u)) := by
    intro c u
    split
    · exact h.trans (h.intentStart z u) (h.quietJudge z _)
    · exact h.quietJudge z u
  exact h.trans (h.intent (upd s.zt.intent z fun _ => intentNow s z) s) (key _ _)

theorem deriveIntent (s : State) : R s (deriveIntent s) := h.foldl h.deriveIntent1 _ s

theorem grantOnce {again : State → State} (ha : ∀ s, R s (again s)) (s : State) :
    R s (grantOnce again s) := by
  unfold Machine.grantOnce
  split
  · rename_i i hi
    exact h.trans (h.grant i s hi) (ha _)
  · exact h.refl s

theorem grantLoop (n : Nat) : ∀ s : State, R s (grantLoop n s) := by
  induction n with
  | zero => exact fun s => h.deriveIntent s
  | succ n ih => exact fun s => h.trans (h.deriveIntent s) (h.grantOnce ih _)

theorem showAll (s : State) : R s (showAll s) := by
  refine h.trans (h.beacons _ s ?_) (h.sound _)
  intro b x
  unfold Beacon.show
  split
  · exact ⟨rfl, rfl, rfl⟩
  · exact ⟨rfl, rfl, rfl⟩

theorem afterDriveOff (s : State) :
    R s (Machine.sendNext (Machine.showAll (Machine.grantLoop grantBound s))) :=
  h.trans (h.grantLoop _ _) <| h.trans (h.showAll _) (h.send _)

theorem settle (hd : ∀ s, R s (judgeDriveOff s)) (s : State) : R s (settle s) :=
  h.trans (hd s) <| h.trans (hd _) (h.afterDriveOff _)

end Closing

end Sys2Proof.Machine
end

