-- ==== Sys2Proof/Laws/Keeps.lean ====
section
/-! SUPPORT. What the shared operations and the closing of a command (`settle`) leave as it was.
`Keeps s t` says that `t` has every field of `s` that none of them writes; each operation has one
lemma. -/

namespace Sys2Proof.Machine

namespace Keeps

theorem refl (s : State) : Keeps s s := by constructor <;> intros <;> rfl

theorem trans {s t u : State} (h : Keeps s t) (g : Keeps t u) : Keeps s u where
  pending := g.pending.trans h.pending
  clock := g.clock.trans h.clock
  free := g.free.trans h.free
  blocks := g.blocks.trans h.blocks
  position := g.position.trans h.position
  hold := g.hold.trans h.hold
  sensors := g.sensors.trans h.sensors
  phase := g.phase.trans h.phase
  loop := g.loop.trans h.loop
  poll := g.poll.trans h.poll
  veh := g.veh.trans h.veh
  presenceT := g.presenceT.trans h.presenceT
  staging := g.staging.trans h.staging
  periodT := g.periodT.trans h.periodT
  supply := g.supply.trans h.supply
  belowNormal := g.belowNormal.trans h.belowNormal
  belowExh := g.belowExh.trans h.belowExh
  aboveExh := g.aboveExh.trans h.aboveExh
  aboveNormal := g.aboveNormal.trans h.aboveNormal
  lines := g.lines.trans h.lines
  cfg := g.cfg.trans h.cfg
  store := g.store.trans h.store
  link c := (g.link c).trans (h.link c)
  miss c := (g.miss c).trans (h.miss c)
  good c := (g.good c).trans (h.good c)
  enable c := (g.enable c).trans (h.enable c)
  lastTaken c := (g.lastTaken c).trans (h.lastTaken c)
  lamp b := (g.lamp b).trans (h.lamp b)
  low b := (g.low b).trans (h.low b)
  goodReads b := (g.goodReads b).trans (h.goodReads b)

/-- A fold of operations that keep keeps. -/
theorem foldl {α : Type} {f : State → α → State} (h : ∀ s x, Keeps s (f s x)) (l : List α)
    (s : State) : Keeps s (l.foldl f s) := by
  induction l generalizing s with
  | nil => exact refl s
  | cons x l ih => exact (h s x).trans (ih (f s x))

end Keeps

/-! ## Notices -/

theorem report_keeps (f : Flag) (s : State) : Keeps s (report f s) := by
  constructor <;> intros <;> rfl

theorem modCrew_keeps (c : CrewId) (f : Crew → Crew) (s : State)
    (h : ∀ x, (f x).link = x.link ∧ (f x).miss = x.miss ∧ (f x).good = x.good
      ∧ (f x).enable = x.enable ∧ (f x).lastTaken = x.lastTaken) : Keeps s (modCrew c f s) := by
  constructor <;> first
    | rfl
    | (intro d
       simp only [modCrew_crew, Fin.getElem_fin, upd_get]
       split
       · simp [h]
       · rfl)
    | (intros; rfl)

theorem placeCab_keeps (n : Notice) (s : State) : Keeps s (placeCab n s) := by
  unfold placeCab
  split
  · exact .refl s
  · split
    · constructor <;> intros <;> rfl
    · split <;> constructor <;> intros <;> rfl

theorem placeCrew_keeps (c : CrewId) (n : Notice) (s : State) : Keeps s (placeCrew c n s) := by
  unfold placeCrew
  split
  · exact .refl s
  · dsimp only
    split
    · exact modCrew_keeps c _ s fun x => ⟨rfl, rfl, rfl, rfl, rfl⟩
    · refine Keeps.trans ?_ (report_keeps _ _)
      exact modCrew_keeps c _ s fun x => ⟨rfl, rfl, rfl, rfl, rfl⟩

theorem place_keeps (st : StationId) (n : Notice) (s : State) : Keeps s (place st n s) := by
  unfold place
  split
  · exact placeCab_keeps n s
  · exact placeCrew_keeps _ n s

theorem placeAll_keeps (n : Notice) (s : State) : Keeps s (placeAll n s) :=
  .foldl (fun s st => place_keeps st n s) _ s

theorem answer_keeps (d : StationId) (k : Byte) (c : Code) (r : Result) (s : State) :
    Keeps s (answer d k c r s) := place_keeps d _ s

theorem sendNext_keeps (s : State) : Keeps s (sendNext s) := by
  unfold sendNext
  split
  · exact .refl s
  · split
    · constructor <;> intros <;> rfl
    · split
      · exact .refl s
      · constructor <;> intros <;> rfl

/-! ## The updates of a reaction -/

theorem keeps_slotReaction (i : SlotId) : SlotReaction i Keeps where
  refl := .refl
  trans := .trans
  slot _ _ := by constructor <;> intros <;> rfl
  queue _ _ _ := by constructor <;> intros <;> rfl
  place := place_keeps
  holder _ _ := by constructor <;> intros <;> rfl
  pump _ _ h _ := by constructor <;> first | exact h | (intros; rfl)
  drive _ _ _ := by constructor <;> intros <;> rfl
  stroke _ _ := by constructor <;> intros <;> rfl
  power _ _ _ := by constructor <;> intros <;> rfl

/-- One beacon after every beacon was replaced. -/
theorem mapBeacons_get (f : BeaconId → Beacon → Beacon) (s : State) (b : BeaconId) :
    (mapBeacons f s).bu.beacons[b.val] = f b s.bu.beacons[b.val] := by
  have h : ∀ (l : List BeaconId) (v : Vector Beacon 8), l.Nodup →
      (l.foldl (fun v b => upd v b (f b)) v)[b.val]
        = if b ∈ l then f b v[b.val] else v[b.val] := by
    intro l
    induction l with
    | nil => intro v _; simp
    | cons x l ih =>
      intro v hn
      rw [List.foldl_cons, ih _ (List.nodup_cons.mp hn).2]
      by_cases hx : x = b
      · subst hx; simp [(List.nodup_cons.mp hn).1]
      · simp [upd_ne v (f x) hx, Ne.symm hx]
  have hb : b ∈ allBeacons := (by decide : ∀ b : BeaconId, b ∈ allBeacons) b
  have := h allBeacons s.bu.beacons (by decide)
  rw [if_pos hb] at this
  exact this

theorem mapBeacons_keeps (f : BeaconId → Beacon → Beacon) (s : State)
    (h : ∀ b x, (f b x).lamp = x.lamp ∧ (f b x).low = x.low ∧ (f b x).good = x.good) :
    Keeps s (mapBeacons f s) := by
  constructor
  case lamp => intro b; simp only [Fin.getElem_fin, mapBeacons_get, h]
  case low => intro b; simp only [Fin.getElem_fin, mapBeacons_get, h]
  case goodReads => intro b; simp only [Fin.getElem_fin, mapBeacons_get, h]
  all_goals intros; rfl

theorem controlledStop_rel {R : State → State → Prop} (h : ∀ i, SlotReaction i R) (o : StopOutcome)
    (s : State) : R s (controlledStop o s) := by
  cases hh : s.arb.holder with
  | none => unfold controlledStop; rw [hh]; exact (h 0).refl s
  | some i => exact (h i).controlledStop o s hh

theorem enterDriveOff_keeps (s : State) :
    Keeps s { s with zt := { s.zt with driveOff := true, permitT := none }
                     tx := { s.tx with due := true } } := by
  constructor <;> intros <;> rfl

theorem judgeDriveOff_keeps (s : State) : Keeps s (judgeDriveOff s) := by
  unfold judgeDriveOff
  split
  · split
    · constructor <;> intros <;> rfl
    · exact .refl s
  · split
    · exact (enterDriveOff_keeps s).trans (controlledStop_rel keeps_slotReaction _ _)
    · exact .refl s

theorem keeps_closing : Closing Keeps where
  refl := .refl
  trans := .trans
  grant i s _ := (keeps_slotReaction i).grant s
  intent _ _ := by constructor <;> intros <;> rfl
  warn _ _ _ := by constructor <;> intros <;> rfl
  beacons := mapBeacons_keeps
  sound _ := by constructor <;> intros <;> rfl
  send := sendNext_keeps

/-- The closing of a command writes none of these fields. -/
theorem settle_keeps (s : State) : Keeps s (settle s) :=
  keeps_closing.settle judgeDriveOff_keeps s

end Sys2Proof.Machine
end

