-- ==== Sys2Proof/Laws/Settled.lean ====
section
/-! SUPPORT. The closing of a command leaves a state `Settled` after the one the command made
(`settle_settled`), and what placing a notice does to the queues and the Fault Summary. -/

namespace Sys2Proof.Machine

/-! ## Flags -/

/-- A flag after a flag was raised. -/
theorem flagIn_raiseFlag (f g : Flag) (m : BitVec 32) :
    flagIn (raiseFlag g m) f = (flagIn m f || decide (f = g)) := by
  have hp : f = g ↔ f.position = g.position := by
    constructor
    · rintro rfl; rfl
    · intro hpos
      cases f <;> cases g <;>
        simp [Flag.position] at hpos ⊢ <;> first | omega | (ext; omega)
  have hlt : ∀ e : Flag, e.position < 32 := by
    intro e; cases e <;> simp [Flag.position] <;> omega
  simp only [flagIn, raiseFlag, flagBit, BitVec.getLsbD_or, hp]
  congr 1
  rw [BitVec.getLsbD_shiftLeft, BitVec.getLsbD_one]
  have h1 := hlt f
  have h2 := hlt g
  rw [Bool.eq_iff_iff]
  simp
  omega

/-! ## Notice queues -/

theorem QueueGrown.refl (q : List (Byte × Notice)) : QueueGrown q q := ⟨0, [], by simp⟩

theorem QueueGrown.trans {q r u : List (Byte × Notice)} (h : QueueGrown q r) (g : QueueGrown r u) :
    QueueGrown q u := by
  obtain ⟨k, l, rfl, hk⟩ := h
  obtain ⟨k', l', rfl, hk'⟩ := g
  refine ⟨k + k', l.drop (k' - (q.drop k).length) ++ l', ?_, ?_⟩
  · simp [List.drop_append, List.drop_drop]
  · intro he
    simp only [List.append_eq_nil_iff] at he
    have h0 := hk' he.2
    subst h0
    simpa using hk (by simpa using he.1)

theorem QueueGrown.append (q l : List (Byte × Notice)) : QueueGrown q (q ++ l) := ⟨0, l, by simp⟩

theorem QueueGrown.push (q : List (Byte × Notice)) (n : Byte × Notice) :
    QueueGrown q (q.tail ++ [n]) := ⟨1, [n], by simp⟩

/-- What the reactions do to the notices, the Fault Summary and the pump's FAULT. -/
structure Mild (s t : State) : Prop where
  flags : ∀ f : Flag, (∀ st, f ≠ .noticesLost st) → flagIn t.faults f = flagIn s.faults f
  raised : ∀ f : Flag, flagIn s.faults f = true → flagIn t.faults f = true
  pumpFault : t.arb.pump = .fault ↔ s.arb.pump = .fault
  crewQueue : ∀ c : CrewId, QueueGrown s.crew[c].queue t.crew[c].queue
  cabQueue : QueueGrown s.cab.queue t.cab.queue

namespace Mild

theorem refl (s : State) : Mild s s :=
  ⟨fun _ _ => rfl, fun _ h => h, Iff.rfl, fun _ => .refl _, .refl _⟩

theorem trans {s t u : State} (h : Mild s t) (g : Mild t u) : Mild s u where
  flags f hf := (g.flags f hf).trans (h.flags f hf)
  raised f hf := g.raised f (h.raised f hf)
  pumpFault := g.pumpFault.trans h.pumpFault
  crewQueue c := (h.crewQueue c).trans (g.crewQueue c)
  cabQueue := h.cabQueue.trans g.cabQueue

/-- A state with the same faults, pump state and queues. -/
theorem of_eq {s t : State} (hf : t.faults = s.faults) (hp : t.arb.pump = .fault ↔ s.arb.pump = .fault)
    (hc : t.crew = s.crew) (hq : t.cab.queue = s.cab.queue) : Mild s t :=
  ⟨fun _ _ => by rw [hf], fun _ h => by rw [hf]; exact h, hp, fun c => by rw [hc]; exact .refl _,
    by rw [hq]; exact .refl _⟩

theorem lost (st : StationId) (s : State) : Mild s (report (.noticesLost st) s) where
  flags f hf := by simp [flagIn_raiseFlag, hf st]
  raised f hf := by simp [flagIn_raiseFlag, hf]
  pumpFault := Iff.rfl
  crewQueue _ := .refl _
  cabQueue := .refl _

theorem modCrew (c : CrewId) (f : Crew → Crew) (s : State)
    (h : QueueGrown s.crew[c].queue (f s.crew[c]).queue) : Mild s (modCrew c f s) where
  flags _ _ := rfl
  raised _ h := h
  pumpFault := Iff.rfl
  crewQueue d := by
    simp only [modCrew_crew, Fin.getElem_fin, upd_get]
    split
    · subst_vars; exact h
    · exact .refl _
  cabQueue := .refl _

theorem placeCrew (c : CrewId) (n : Notice) (s : State) : Mild s (placeCrew c n s) := by
  unfold Machine.placeCrew
  split
  · exact refl s
  · dsimp only
    split
    · exact modCrew c _ s (.append _ _)
    · exact (modCrew c _ s (.push _ _)).trans (lost _ _)

theorem placeCab (n : Notice) (s : State) : Mild s (placeCab n s) := by
  unfold Machine.placeCab
  split
  · exact refl s
  · split
    · rename_i h
      exact ⟨fun _ _ => rfl, fun _ h => h, Iff.rfl, fun _ => .refl _, by rw [h]; exact .append [] _⟩
    · rename_i o r h
      split
      · exact ⟨fun _ _ => rfl, fun _ h => h, Iff.rfl, fun _ => .refl _, .append _ _⟩
      · refine trans (t := { s with
          cab := { s.cab with queue := r ++ [(s.cab.next, n)], next := s.cab.next + 1 }
          tx := { s.tx with run := abandonNotice o.1 s.tx.run } }) ?_ (lost _ _)
        exact ⟨fun _ _ => rfl, fun _ h => h, Iff.rfl, fun _ => .refl _, by rw [h]; exact .push (o :: r) _⟩

theorem place (st : StationId) (n : Notice) (s : State) : Mild s (place st n s) := by
  unfold Machine.place
  split
  · exact placeCab n s
  · exact placeCrew _ n s

theorem slotReaction (i : SlotId) : SlotReaction i Mild where
  refl := refl
  trans := trans
  slot _ _ := of_eq rfl Iff.rfl rfl rfl
  queue _ _ _ := of_eq rfl Iff.rfl rfl rfl
  place := place
  holder _ _ := of_eq rfl Iff.rfl rfl rfl
  pump _ _ _ hp := of_eq rfl hp rfl rfl
  drive _ _ _ := of_eq rfl Iff.rfl rfl rfl
  stroke _ _ := of_eq rfl Iff.rfl rfl rfl
  power _ _ _ := of_eq rfl Iff.rfl rfl rfl

theorem sendNext (s : State) : Mild s (sendNext s) := by
  unfold Machine.sendNext
  split
  · exact refl s
  · split
    · exact of_eq rfl Iff.rfl rfl rfl
    · split
      · exact refl s
      · exact of_eq rfl Iff.rfl rfl rfl

theorem judgeDriveOff (s : State) : Mild s (judgeDriveOff s) := by
  unfold Machine.judgeDriveOff
  split
  · split
    · exact of_eq rfl Iff.rfl rfl rfl
    · exact refl s
  · split
    · exact trans (t := { s with zt := { s.zt with driveOff := true, permitT := none }
                                 tx := { s.tx with due := true } })
        (of_eq rfl Iff.rfl rfl rfl) (controlledStop_rel slotReaction _ _)
    · exact refl s

theorem closing : Closing Mild where
  refl := refl
  trans := trans
  grant i s _ := (slotReaction i).grant s
  intent _ _ := of_eq rfl Iff.rfl rfl rfl
  warn _ _ _ := of_eq rfl Iff.rfl rfl rfl
  beacons _ _ _ := of_eq rfl Iff.rfl rfl rfl
  sound _ := of_eq rfl Iff.rfl rfl rfl
  send := sendNext

end Mild

/-! ## Other slots -/

/-- Every slot but `i` is as it was. -/
def OthersKept (i : SlotId) (s t : State) : Prop :=
  ∀ j, j ≠ i → t.slot j = s.slot j ∧ (j ∈ t.sm.queue ↔ j ∈ s.sm.queue)

/-- The Sequence Manager's data is as it was. -/
theorem OthersKept.of_sm {i : SlotId} {s t : State} (h : t.sm = s.sm) : OthersKept i s t :=
  fun j _ => ⟨slot_congr (by rw [h]) j, by rw [h]⟩

theorem OthersKept.trans {i : SlotId} {s t u : State} (h : OthersKept i s t) (g : OthersKept i t u) :
    OthersKept i s u :=
  fun j hj => ⟨(g j hj).1.trans (h j hj).1, (g j hj).2.trans (h j hj).2⟩

/-- Placing a notice changes no slot. -/
theorem place_sm (st : StationId) (n : Notice) (s : State) : (place st n s).sm = s.sm := by
  unfold place placeCab placeCrew
  dsimp only
  repeat' split
  all_goals rfl

theorem othersKept_slotReaction (i : SlotId) : SlotReaction i (OthersKept i) where
  refl _ _ _ := ⟨rfl, Iff.rfl⟩
  trans := .trans
  slot f s _ hj := ⟨slot_modSlot_ne f s (Ne.symm hj), Iff.rfl⟩
  queue _ _ h j hj := ⟨rfl, h j hj⟩
  place st n s := .of_sm (place_sm st n s)
  holder _ _ := .of_sm rfl
  pump _ _ _ _ := .of_sm rfl
  drive _ _ _ := .of_sm rfl
  stroke _ _ := .of_sm rfl
  power _ _ _ := .of_sm rfl

/-- Inert slots are left alone. -/
def InertKept (s t : State) : Prop :=
  ∀ j : SlotId, (s.slot j).inert = true → t.slot j = s.slot j ∧ (j ∈ t.sm.queue ↔ j ∈ s.sm.queue)

theorem InertKept.of_sm {s t : State} (h : t.sm = s.sm) : InertKept s t :=
  fun j _ => ⟨slot_congr (by rw [h]) j, by rw [h]⟩

theorem InertKept.trans {s t u : State} (h : InertKept s t) (g : InertKept t u) : InertKept s u := by
  intro j hj
  obtain ⟨h1, h2⟩ := h j hj
  obtain ⟨g1, g2⟩ := g j (by rw [h1]; exact hj)
  exact ⟨g1.trans h1, g2.trans h2⟩

theorem InertKept.of_others {i : SlotId} {s t : State} (h : OthersKept i s t)
    (hi : (s.slot i).inert = false) : InertKept s t := by
  intro j hj
  refine h j ?_
  rintro rfl
  simp [hi] at hj

/-- The slot the grant goes to is QUEUED and eligible (R75, R76). -/
theorem eligible_of_grantChoice {s : State} {i : SlotId} (h : grantChoice s = some i) :
    eligible s i = true := by
  unfold grantChoice at h
  split at h
  · cases h
  · simp only [Option.or_eq_some_iff] at h
    have key : ∀ c, firstOfClass s c = some i → eligible s i = true := by
      intro c hc
      have := List.find?_some hc
      simp only [Bool.and_eq_true] at this
      exact this.2
    rcases h with (h | ⟨_, h⟩) | ⟨_, h⟩ <;> exact key _ h

/-- It is QUEUED. -/
theorem queued_of_eligible {s : State} {i : SlotId} (h : eligible s i = true) :
    (s.slot i).state = .queued := by
  unfold eligible at h
  simp only [Bool.and_eq_true, beq_iff_eq] at h
  exact h.1

/-- A controlled stop touches at most the ACTIVE holder. -/
theorem controlledStop_inert (o : StopOutcome) (s : State) : InertKept s (controlledStop o s) := by
  cases hh : s.arb.holder with
  | none => unfold controlledStop; rw [hh]; exact .of_sm rfl
  | some i =>
    by_cases ha : (s.slot i).state = .active
    · exact .of_others ((othersKept_slotReaction i).controlledStop o s hh) (by simp [Slot.inert, ha])
    · have : controlledStop o s = s := by
        unfold controlledStop
        rw [hh]
        split
        · rename_i j k hj _
          obtain rfl : i = j := by simpa using hj
          simp [ha]
        · rfl
      rw [this]
      exact .of_sm rfl

theorem judgeDriveOff_inert (s : State) : InertKept s (judgeDriveOff s) := by
  unfold judgeDriveOff
  split
  · split <;> exact .of_sm rfl
  · split
    · exact InertKept.trans (t := { s with zt := { s.zt with driveOff := true, permitT := none }
                                           tx := { s.tx with due := true } })
        (.of_sm rfl) (controlledStop_inert _ _)
    · exact .of_sm rfl

theorem sendNext_sm (s : State) : (sendNext s).sm = s.sm := by
  unfold sendNext
  repeat' split
  all_goals rfl

theorem inertKept_closing : Closing InertKept where
  refl _ := .of_sm rfl
  trans := .trans
  grant i s h := .of_others ((othersKept_slotReaction i).grant s)
    (by simp [Slot.inert, queued_of_eligible (eligible_of_grantChoice h)])
  intent _ _ := .of_sm rfl
  warn _ _ _ := .of_sm rfl
  beacons _ _ _ := .of_sm rfl
  sound _ := .of_sm rfl
  send s := .of_sm (sendNext_sm s)

/-! ## The traffic permit -/

/-- The Drive-Off state and the permit are as they were. -/
def PermitKept (s t : State) : Prop := t.zt.driveOff = s.zt.driveOff ∧ t.zt.permitT = s.zt.permitT

theorem place_zt (st : StationId) (n : Notice) (s : State) : (place st n s).zt = s.zt := by
  unfold place placeCab placeCrew
  dsimp only
  repeat' split
  all_goals rfl

theorem PermitKept.trans {s t u : State} (h : PermitKept s t) (g : PermitKept t u) : PermitKept s u :=
  ⟨g.1.trans h.1, g.2.trans h.2⟩

theorem permitKept_slotReaction (i : SlotId) : SlotReaction i PermitKept where
  refl _ := ⟨rfl, rfl⟩
  trans := .trans
  slot _ _ := ⟨rfl, rfl⟩
  queue _ _ _ := ⟨rfl, rfl⟩
  place st n s := by simp [PermitKept, place_zt]
  holder _ _ := ⟨rfl, rfl⟩
  pump _ _ _ _ := ⟨rfl, rfl⟩
  drive _ _ _ := ⟨rfl, rfl⟩
  stroke _ _ := ⟨rfl, rfl⟩
  power _ _ _ := ⟨rfl, rfl⟩

theorem sendNext_zt (s : State) : (sendNext s).zt = s.zt := by
  unfold sendNext
  repeat' split
  all_goals rfl

theorem permitKept_closing : Closing PermitKept where
  refl _ := ⟨rfl, rfl⟩
  trans := .trans
  grant i s _ := (permitKept_slotReaction i).grant s
  intent _ _ := ⟨rfl, rfl⟩
  warn _ _ _ := ⟨rfl, rfl⟩
  beacons _ _ _ := ⟨rfl, rfl⟩
  sound _ := ⟨rfl, rfl⟩
  send s := by simp [PermitKept, sendNext_zt]

/-- Where Drive-Off is not entered, judging it can only end it. -/
theorem judgeDriveOff_twice {s : State} (h : NoDriveOffEntry s) :
    ∃ b, judgeDriveOff (judgeDriveOff s) = { s with zt := { s.zt with driveOff := b } } := by
  by_cases hd : s.zt.driveOff = true
  · by_cases he : roadSpeed s = 0 ∨ insecure s = false
    · have h1 : judgeDriveOff s = { s with zt := { s.zt with driveOff := false } } := by
        unfold judgeDriveOff; rw [if_pos hd, if_pos he]
      refine ⟨false, ?_⟩
      rw [h1]
      have h2 : roadSpeed { s with zt := { s.zt with driveOff := false } } = roadSpeed s := rfl
      have h3 : insecure { s with zt := { s.zt with driveOff := false } } = insecure s := rfl
      unfold judgeDriveOff
      rw [if_neg (by simp), if_neg]
      rw [h2, h3]
      rintro ⟨g1, g2⟩
      rcases he with he | he
      · rw [he] at g1; exact absurd g1 (by decide)
      · rw [he] at g2; cases g2
    · have h1 : judgeDriveOff s = s := by
        unfold judgeDriveOff; rw [if_pos hd, if_neg he]
      refine ⟨true, ?_⟩
      rw [h1, h1, ← hd]
  · have hs : roadSpeed s < driveOffSpeed := h.resolve_left hd
    have h1 : judgeDriveOff s = s := by
      unfold judgeDriveOff
      rw [if_neg hd, if_neg]
      rintro ⟨g1, _⟩
      omega
    refine ⟨false, ?_⟩
    rw [h1, h1]
    have : s.zt.driveOff = false := by simpa using hd
    rw [← this]

theorem settle_permit (s : State) (h : NoDriveOffEntry s) : (settle s).zt.permitT = s.zt.permitT := by
  obtain ⟨b, hb⟩ := judgeDriveOff_twice h
  unfold settle
  rw [hb]
  exact (permitKept_closing.afterDriveOff _).2

/-! ## Where the grant rule has nothing to do -/

/-- The slots, the grant, the pump, the stroke, the notices, the Fault Summary and the power state are
as they were. -/
def CoreKept (s t : State) : Prop :=
  t.sm = s.sm ∧ t.arb = s.arb ∧ t.se = s.se ∧ t.crew = s.crew ∧ t.cab = s.cab
    ∧ t.faults = s.faults ∧ t.sup = s.sup

theorem CoreKept.refl (s : State) : CoreKept s s := ⟨rfl, rfl, rfl, rfl, rfl, rfl, rfl⟩

theorem CoreKept.trans {s t u : State} (h : CoreKept s t) (g : CoreKept t u) : CoreKept s u :=
  ⟨g.1.trans h.1, g.2.1.trans h.2.1, g.2.2.1.trans h.2.2.1, g.2.2.2.1.trans h.2.2.2.1,
    g.2.2.2.2.1.trans h.2.2.2.2.1, g.2.2.2.2.2.1.trans h.2.2.2.2.2.1,
    g.2.2.2.2.2.2.trans h.2.2.2.2.2.2⟩

/-- Nothing waits, or the grant is held. -/
def NoGrant (s : State) : Prop := s.arb.holder ≠ none ∨ s.sm.queue = []

theorem grantChoice_none {s : State} (h : NoGrant s) : grantChoice s = none := by
  unfold grantChoice
  split
  · rfl
  · rename_i hh
    have hq : s.sm.queue = [] := h.resolve_left (by simp [hh])
    simp [firstOfClass, hq]

/-- The relation of the closing where no grant is given. -/
def CoreKeptIf (s t : State) : Prop := NoGrant s → CoreKept s t

theorem sendNext_core (s : State) : CoreKept s (sendNext s) := by
  unfold sendNext
  repeat' split
  all_goals exact ⟨rfl, rfl, rfl, rfl, rfl, rfl, rfl⟩

theorem coreKept_closing : Closing CoreKeptIf where
  refl s _ := .refl s
  trans h g hs := (h hs).trans (g (by
    obtain ⟨h1, h2, _⟩ := h hs
    unfold NoGrant
    rw [h1, h2]
    exact hs))
  grant i s h hs := by rw [grantChoice_none hs] at h; cases h
  intent _ _ _ := ⟨rfl, rfl, rfl, rfl, rfl, rfl, rfl⟩
  warn _ _ _ _ := ⟨rfl, rfl, rfl, rfl, rfl, rfl, rfl⟩
  beacons _ _ _ _ := ⟨rfl, rfl, rfl, rfl, rfl, rfl, rfl⟩
  sound _ _ := ⟨rfl, rfl, rfl, rfl, rfl, rfl, rfl⟩
  send s _ := sendNext_core s

/-- A controlled stop without an ACTIVE holder does nothing. -/
theorem controlledStop_idle (o : StopOutcome) {s : State}
    (h : ∀ i, s.arb.holder = some i → (s.slot i).state ≠ .active) : controlledStop o s = s := by
  unfold controlledStop
  split
  · rename_i i k hi _
    simp [h i hi]
  · rfl

theorem judgeDriveOff_core {s : State}
    (h : ∀ i, s.arb.holder = some i → (s.slot i).state ≠ .active) : CoreKept s (judgeDriveOff s) := by
  unfold judgeDriveOff
  split
  · split <;> exact ⟨rfl, rfl, rfl, rfl, rfl, rfl, rfl⟩
  · split
    · rw [controlledStop_idle]
      · exact ⟨rfl, rfl, rfl, rfl, rfl, rfl, rfl⟩
      · exact h
    · exact .refl s

theorem settle_steady {s : State} (h : Steady s) : CoreKept s (settle s) := by
  have hj : CoreKept s (judgeDriveOff (judgeDriveOff s)) := by
    by_cases ha : ∀ i, s.arb.holder = some i → (s.slot i).state ≠ .active
    · have h1 := judgeDriveOff_core ha
      refine h1.trans (judgeDriveOff_core ?_)
      intro i hi
      rw [h1.2.1] at hi
      rw [slot_congr (s := s) (by rw [h1.1]) i]
      exact ha i hi
    · push Not at ha
      obtain ⟨i, hi, hact⟩ := ha
      rcases h with ⟨h0, _⟩ | ⟨j, hj, h1⟩
      · rw [h0] at hi; cases hi
      · obtain rfl : i = j := by rw [hi] at hj; simpa using hj
        obtain ⟨b, hb⟩ := judgeDriveOff_twice (h1.resolve_left (by simp [hact]))
        rw [hb]
        exact ⟨rfl, rfl, rfl, rfl, rfl, rfl, rfl⟩
  refine hj.trans (coreKept_closing.afterDriveOff _ ?_)
  unfold NoGrant
  rw [hj.1, hj.2.1]
  rcases h with ⟨_, h0⟩ | ⟨j, hj, _⟩
  · exact .inr h0
  · exact .inl (by simp [hj])

/-! ## The closing of a command -/

/-- The closing of a command leaves a state `Settled` after the one the command made. -/
theorem settle_settled (s : State) : Settled s (settle s) where
  toKeeps := settle_keeps s
  inert := inertKept_closing.settle judgeDriveOff_inert s
  flags := (Mild.closing.settle Mild.judgeDriveOff s).flags
  raised := (Mild.closing.settle Mild.judgeDriveOff s).raised
  pumpFault := (Mild.closing.settle Mild.judgeDriveOff s).pumpFault
  permit := settle_permit s
  crewQueue := (Mild.closing.settle Mild.judgeDriveOff s).crewQueue
  cabQueue := (Mild.closing.settle Mild.judgeDriveOff s).cabQueue
  steady h := settle_steady h

end Sys2Proof.Machine
end

