-- ==== Sys2Proof/Laws/Requests.lean ====
section
/-! SUPPORT. How a request reaches its owner and what its answer does; how items are found by their
numbers; the wake outside PARKED. -/

namespace Sys2Proof.Machine

/-! ## Numbers -/

/-- The item with a number. -/
theorem itemOf_number {k : Nat} (i : Fin k) {n : Nat} (h : n = i.val + 1) : itemOf k n = some i := by
  subst h
  unfold itemOf
  rw [dif_pos ⟨by omega, by omega⟩]
  simp

/-- No item has a number outside 1 to `k`. -/
theorem itemOf_out {k n : Nat} (h : n = 0 ∨ k < n) : itemOf k n = none := by
  unfold itemOf
  rw [dif_neg]
  omega

/-- The crew station with a station's number is that station. -/
theorem crewOf_stationOf (c : CrewId) : crewOf (stationOf c) = some c :=
  itemOf_number c (by simp [stationOf])

theorem crewOf_cab : crewOf 0 = none := itemOf_out (.inl rfl)

theorem stationOf_ne_cab (c : CrewId) : stationOf c ≠ 0 := Fin.succ_ne_zero c

theorem stationOf_inj {c d : CrewId} (h : stationOf c = stationOf d) : c = d := Fin.succ_inj.mp h

/-! ## The wake -/

/-- Outside PARKED there is nothing to wake. -/
theorem wake_awake {s : State} (h : s.parked = false) : wake s = s := by simp [wake, h]

/-! ## Links -/

/-- A request that reaches its owner. -/
theorem viaLink_reaches {src : Sender} {s : State} (h : Reaches src s)
    (f : StationId → State → State) :
    viaLink src f s = linkClosed src (f (senderStation src) (requestTaken src s)) := by
  cases src with
  | cab =>
    obtain ⟨h1, h2⟩ := h
    simp [viaLink, h1, wake_awake h2, linkClosed, senderStation, requestTaken]
  | crew c n =>
    obtain ⟨h1, h2⟩ := h
    have h3 : ¬(s.crew[c].link != .online || s.crew[c].lastTaken == n) = true := by
      simpa using And.intro h1 h2
    simp only [viaLink, if_neg h3]
    rfl

/-- A request that does not reach its owner, outside PARKED. -/
theorem viaLink_lost {src : Sender} {s : State} (hp : s.parked = false) (h : ¬ Reaches src s)
    (f : StationId → State → State) : viaLink src f s = s := by
  cases src with
  | cab =>
    have h1 : s.cabOnline = false := by
      cases hc : s.cabOnline
      · rfl
      · exact absurd ⟨hc, hp⟩ h
    simp [viaLink, h1, wake_awake hp]
  | crew c n =>
    simp only [viaLink]
    rw [if_pos]
    by_contra hc
    exact h (by simpa [Reaches] using hc)

/-! ## The state a request finds -/

/-- Recording the number of a request changes no other part than the crew stations. -/
theorem requestTaken_eq (src : Sender) (s : State) :
    requestTaken src s = { s with crew := (requestTaken src s).crew } := by
  cases src <;> rfl

section Fields
variable (src : Sender) (s : State)
@[simp] theorem requestTaken_pending : (requestTaken src s).pending = s.pending := by
  cases src <;> rfl
@[simp] theorem requestTaken_clock : (requestTaken src s).clock = s.clock := by cases src <;> rfl
@[simp] theorem requestTaken_free : (requestTaken src s).free = s.free := by cases src <;> rfl
@[simp] theorem requestTaken_sm : (requestTaken src s).sm = s.sm := by cases src <;> rfl
@[simp] theorem requestTaken_zt : (requestTaken src s).zt = s.zt := by cases src <;> rfl
@[simp] theorem requestTaken_arb : (requestTaken src s).arb = s.arb := by cases src <;> rfl
@[simp] theorem requestTaken_sensors : (requestTaken src s).sensors = s.sensors := by
  cases src <;> rfl
@[simp] theorem requestTaken_se : (requestTaken src s).se = s.se := by cases src <;> rfl
@[simp] theorem requestTaken_bu : (requestTaken src s).bu = s.bu := by cases src <;> rfl
@[simp] theorem requestTaken_loop : (requestTaken src s).loop = s.loop := by cases src <;> rfl
@[simp] theorem requestTaken_faults : (requestTaken src s).faults = s.faults := by cases src <;> rfl
@[simp] theorem requestTaken_poll : (requestTaken src s).poll = s.poll := by cases src <;> rfl
@[simp] theorem requestTaken_veh : (requestTaken src s).veh = s.veh := by cases src <;> rfl
@[simp] theorem requestTaken_cab : (requestTaken src s).cab = s.cab := by cases src <;> rfl
@[simp] theorem requestTaken_tx : (requestTaken src s).tx = s.tx := by cases src <;> rfl
@[simp] theorem requestTaken_sup : (requestTaken src s).sup = s.sup := by cases src <;> rfl
@[simp] theorem requestTaken_lines : (requestTaken src s).lines = s.lines := by cases src <;> rfl
@[simp] theorem requestTaken_cfg : (requestTaken src s).cfg = s.cfg := by cases src <;> rfl
@[simp] theorem requestTaken_store : (requestTaken src s).store = s.store := by cases src <;> rfl
@[simp] theorem requestTaken_slot (i : SlotId) : (requestTaken src s).slot i = s.slot i := by
  cases src <;> rfl
/-- Every other field of a crew station's record. -/
theorem requestTaken_crew (c : CrewId) :
    (requestTaken src s).crew[c.val]
      = { s.crew[c.val] with lastTaken := (requestTaken src s).crew[c.val].lastTaken } := by
  cases src with
  | cab => rfl
  | crew d n =>
    simp only [requestTaken, modCrew_crew, upd_get]
    split <;> rfl
end Fields

/-! ## Placing a notice -/

/-- Placing a notice changes only the notice queues, the Fault Summary and the run being sent. -/
theorem place_eq (st : StationId) (n : Notice) (s : State) :
    place st n s = { s with
      crew := (place st n s).crew
      cab := (place st n s).cab
      tx := { s.tx with run := (place st n s).tx.run }
      faults := (place st n s).faults } := by
  unfold place placeCab placeCrew
  dsimp only
  repeat' split
  all_goals rfl

section Place
variable (st : StationId) (n : Notice) (s : State)
@[simp] theorem place_sm' : (place st n s).sm = s.sm := place_sm st n s
@[simp] theorem place_zt' : (place st n s).zt = s.zt := place_zt st n s
@[simp] theorem place_arb : (place st n s).arb = s.arb := by rw [place_eq]
@[simp] theorem place_sensors : (place st n s).sensors = s.sensors := by rw [place_eq]
@[simp] theorem place_se : (place st n s).se = s.se := by rw [place_eq]
@[simp] theorem place_bu : (place st n s).bu = s.bu := by rw [place_eq]
@[simp] theorem place_loop : (place st n s).loop = s.loop := by rw [place_eq]
@[simp] theorem place_veh : (place st n s).veh = s.veh := by rw [place_eq]
@[simp] theorem place_sup : (place st n s).sup = s.sup := by rw [place_eq]
@[simp] theorem place_lines : (place st n s).lines = s.lines := by rw [place_eq]
@[simp] theorem place_cfg : (place st n s).cfg = s.cfg := by rw [place_eq]
@[simp] theorem place_store : (place st n s).store = s.store := by rw [place_eq]
@[simp] theorem place_slot (i : SlotId) : (place st n s).slot i = s.slot i :=
  slot_congr (by rw [place_sm]) i
end Place

section Answer
variable (d : StationId) (k : Byte) (c : Code) (r : Result) (s : State)
@[simp] theorem answer_sm : (answer d k c r s).sm = s.sm := place_sm d _ s
@[simp] theorem answer_zt : (answer d k c r s).zt = s.zt := place_zt d _ s
@[simp] theorem answer_arb : (answer d k c r s).arb = s.arb := place_arb d _ s
@[simp] theorem answer_sensors : (answer d k c r s).sensors = s.sensors := place_sensors d _ s
@[simp] theorem answer_se : (answer d k c r s).se = s.se := place_se d _ s
@[simp] theorem answer_bu : (answer d k c r s).bu = s.bu := place_bu d _ s
@[simp] theorem answer_loop : (answer d k c r s).loop = s.loop := place_loop d _ s
@[simp] theorem answer_veh : (answer d k c r s).veh = s.veh := place_veh d _ s
@[simp] theorem answer_sup : (answer d k c r s).sup = s.sup := place_sup d _ s
@[simp] theorem answer_lines : (answer d k c r s).lines = s.lines := place_lines d _ s
@[simp] theorem answer_cfg : (answer d k c r s).cfg = s.cfg := place_cfg d _ s
@[simp] theorem answer_store : (answer d k c r s).store = s.store := place_store d _ s
@[simp] theorem answer_slot (i : SlotId) : (answer d k c r s).slot i = s.slot i :=
  place_slot d _ s i
end Answer

/-! ## After the closing of a command -/

/-- The transmitter's next run leaves a settled state settled. -/
theorem Settled.send {s t : State} (h : Settled s t) : Settled s (sendNext t) where
  toKeeps := h.toKeeps.trans (sendNext_keeps t)
  inert j hj := by
    rw [slot_congr (s := t) (by rw [sendNext_sm]) j, sendNext_sm]
    exact h.inert j hj
  flags f hf := by rw [(sendNext_core t).2.2.2.2.2.1]; exact h.flags f hf
  raised f hf := by rw [(sendNext_core t).2.2.2.2.2.1]; exact h.raised f hf
  pumpFault := by rw [(sendNext_core t).2.1]; exact h.pumpFault
  permit hp := by rw [sendNext_zt]; exact h.permit hp
  crewQueue c := by rw [(sendNext_core t).2.2.2.1]; exact h.crewQueue c
  cabQueue := by rw [(sendNext_core t).2.2.2.2.1]; exact h.cabQueue
  steady hs := CoreKept.trans (h.steady hs) (sendNext_core t)

/-- A request's effect that is closed, as its link leaves it. -/
theorem settled_linkClosed (src : Sender) (u : State) : Settled u (linkClosed src (settle u)) := by
  cases src with
  | cab => exact (settle_settled u).send
  | crew c n => exact settle_settled u

/-- What the link does last changes only the transmitter. -/
theorem linkClosed_core (src : Sender) (u : State) : CoreKept u (linkClosed src u) := by
  cases src with
  | cab => exact sendNext_core u
  | crew c n => exact .refl u

theorem linkClosed_keeps (src : Sender) (u : State) : Keeps u (linkClosed src u) := by
  cases src with
  | cab => exact sendNext_keeps u
  | crew c n => exact .refl u

theorem linkClosed_slot (src : Sender) (u : State) (i : SlotId) :
    (linkClosed src u).slot i = u.slot i := slot_congr (by rw [(linkClosed_core src u).1]) i

end Sys2Proof.Machine
end

