-- ==== Sys2Proof/Laws/Commands.lean ====
section
/-! SUPPORT. The next state of each command, one lemma a command. -/

namespace Sys2Proof.Machine

theorem exec_submit (src : Sender) (block : List Byte) (s : State) :
    exec (.submit src block) s =
    .next (viaLink src (takeSubmit block) s) := rfl

theorem exec_cancel (src : Sender) (slot : Byte) (s : State) :
    exec (.cancel src slot) s =
    .next (viaLink src (takeCancel slot) s) := rfl

theorem exec_release (src : Sender) (slot : Byte) (s : State) :
    exec (.release src slot) s =
    .next (viaLink src (takeRelease slot) s) := rfl

theorem exec_clearFlag (src : Sender) (slot : Byte) (s : State) :
    exec (.clearFlag src slot) s =
    .next (viaLink src (takeClearFlag slot) s) := rfl

theorem exec_rerun (src : Sender) (slot : Byte) (s : State) :
    exec (.rerun src slot) s =
    .next (viaLink src (takeRerun slot) s) := rfl

theorem exec_resume (src : Sender) (slot : Byte) (s : State) :
    exec (.resume src slot) s =
    .next (viaLink src (takeResume slot) s) := rfl

theorem exec_interrogate (src : Sender) (slot : Byte) (s : State) :
    exec (.interrogate src slot) s =
    .next (viaLink src (takeInterrogate slot) s) := rfl

theorem exec_dwellTimerExpiry (slot : SlotId) (s : State) :
    exec (.dwellTimerExpiry slot) s =
    .next (if due (s.slot slot).dwellT then
      settle (stepDone slot (modSlot slot (fun x => { x with dwellT := none }) s))
    else s) := rfl

theorem exec_blockZone (src : Sender) (zone : Byte) (s : State) :
    exec (.blockZone src zone) s =
    .next (viaLink src (takeBlockZone zone) s) := rfl

theorem exec_unblockZone (src : Sender) (zone : Byte) (s : State) :
    exec (.unblockZone src zone) s =
    .next (viaLink src (takeUnblockZone zone) s) := rfl

theorem exec_trafficPermitGrant (src : Sender) (s : State) :
    exec (.trafficPermitGrant src) s =
    .next (viaLink src (takePermit permitGrant) s) := rfl

theorem exec_trafficPermitWithdraw (src : Sender) (s : State) :
    exec (.trafficPermitWithdraw src) s =
    .next (viaLink src (takePermit permitWithdraw) s) := rfl

theorem exec_releaseTimerExpiry (zone : ZoneId) (s : State) :
    exec (.releaseTimerExpiry zone) s =
    .next (if due s.zt.blocks[zone].releaseT then
      settle (modBlocks zone (fun b => { b with state := .unblocked, releaseT := none }) s)
    else s) := rfl

theorem exec_permitTimerExpiry (s : State) :
    exec .permitTimerExpiry s =
    .next (if due s.zt.permitT then settle (setPermit none s) else s) := rfl

theorem exec_preWarnTimerExpiry (zone : ZoneId) (s : State) :
    exec (.preWarnTimerExpiry zone) s =
    .next (if due s.bu.warns[zone].preWarnT then settle (preWarnPassed zone s) else s) := rfl

theorem exec_hold (src : Sender) (level : Byte) (s : State) :
    exec (.hold src level) s =
    .next (viaLink src (takeHold level) s) := rfl

theorem exec_releaseHold (src : Sender) (s : State) :
    exec (.releaseHold src) s =
    .next (viaLink src takeReleaseHold s) := rfl

theorem exec_pumpPressureSample (bar : Nat) (s : State) :
    exec (.pumpPressureSample bar) s =
    .next (takePressure bar s) := rfl

theorem exec_startTimerExpiry (s : State) :
    exec .startTimerExpiry s =
    .next (if due s.arb.startT then settle (pumpFailed .start s) else s) := rfl

theorem exec_runOnTimerExpiry (s : State) :
    exec .runOnTimerExpiry s =
    .next (if due s.arb.runOnT then
      { s with arb := { s.arb with pump := .off, runOnT := none } }
    else s) := rfl

theorem exec_pressureLossTimerExpiry (s : State) :
    exec .pressureLossTimerExpiry s =
    .next (if due s.arb.lossT then settle (pumpFailed .pressure s) else s) := rfl

theorem exec_emergencyReset (src : Sender) (s : State) :
    exec (.emergencyReset src) s =
    .next (viaLink src takeEmergencyReset s) := rfl

theorem exec_clearFaults (src : Sender) (map : BitVec 32) (s : State) :
    exec (.clearFaults src map) s =
    .next (viaLink src (takeClearFaults map) s) := rfl

theorem exec_readStatus (src : Sender) (s : State) :
    exec (.readStatus src) s =
    .next (viaLink src takeReadStatus s) := rfl

theorem exec_channelChange (channel : Channel) (closed : Bool) (s : State) :
    exec (.channelChange channel closed) s =
    .next (if s.loop.reading channel = closed then s
    else settle (channelChanged channel closed (wake s))) := rfl

theorem exec_discrepancyTimerExpiry (s : State) :
    exec .discrepancyTimerExpiry s =
    .next (if due s.loop.discT then settle (discrepancyExpired s) else s) := rfl

theorem exec_readConfiguration (src : Sender) (part : Byte) (s : State) :
    exec (.readConfiguration src part) s =
    .next (viaLink src (takeReadConfiguration part) s) := rfl

theorem exec_writeConfiguration (src : Sender) (record : List Byte) (s : State) :
    exec (.writeConfiguration src record) s =
    .next (viaLink src (takeWriteConfiguration record) s) := rfl

theorem exec_restart (src : Sender) (battery : Nat) (s : State) :
    exec (.restart src battery) s =
    .next (viaLink src (takeRestart battery) s) := rfl

theorem exec_writeConfigurationCompletion (s : State) :
    exec .writeConfigurationCompletion s =
    .next (match s.store.programming with
      | some record => settle (writeCompleted record s)
      | none => s) := rfl

theorem exec_powerOn (levels : LineLevels) (s : State) :
    exec (.powerOn levels) s =
    .next (startUp levels none s) := rfl

theorem exec_batteryMeasurement (decivolts : Nat) (s : State) :
    exec (.batteryMeasurement decivolts) s =
    .next (takeMeasurement decivolts s) := rfl

theorem exec_ignitionLineChange (on : Bool) (s : State) :
    exec (.ignitionLineChange on) s =
    .next (if s.lines.ignition = on then s else ignitionChanged on s) := rfl

theorem exec_wakeLinePull (s : State) :
    exec .wakeLinePull s =
    .next (wake s) := rfl

theorem exec_standbyTimerExpiry (s : State) :
    exec .standbyTimerExpiry s =
    .next (if due s.sup.standbyT then enterParked s else s) := rfl

theorem exec_latchSwitchChange (door : DoorId) (made : Bool) (s : State) :
    exec (.latchSwitchChange door made) s =
    .next (if s.lines.latchMade[door] = made then s else settle (latchChanged door made (wake s))) := rfl

theorem exec_sensorSample (axis : AxisId) (flagged : Bool) (position : Nat) (s : State) :
    exec (.sensorSample axis flagged position) s =
    .next (if (s.axisCfg axis).present then settle (takeSample axis flagged position s) else s) := rfl

theorem exec_sampleWatchdogExpiry (axis : AxisId) (s : State) :
    exec (.sampleWatchdogExpiry axis) s =
    .next (if due s.sensors[axis].watchdog then settle (watchdogExpired axis s) else s) := rfl

theorem exec_timeLimitExpiry (s : State) :
    exec .timeLimitExpiry s =
    .next (match strokeWith (·.limitT) s with
      | some k => settle (strokeEnds k.slot .timeout s)
      | none => s) := rfl

theorem exec_stallTimerExpiry (s : State) :
    exec .stallTimerExpiry s =
    .next (match strokeWith (·.stallT) s with
      | some k => settle (strokeEnds k.slot .stalled s)
      | none => s) := rfl

theorem exec_latchTimerExpiry (s : State) :
    exec .latchTimerExpiry s =
    .next (match strokeWith (·.latchT) s with
      | some k => settle (strokeEnds k.slot .latch s)
      | none => s) := rfl

theorem exec_settleTimerExpiry (s : State) :
    exec .settleTimerExpiry s =
    .next (match strokeWith (·.settleT) s with
      | some k => settle (strokeEnds k.slot (settleEnd s k) s)
      | none => s) := rfl

theorem exec_rampTimerExpiry (s : State) :
    exec .rampTimerExpiry s =
    .next (match strokeWith (·.rampT) s with
      | some k => settle (stopEnds k s)
      | none => s) := rfl

theorem exec_lampReading (beacon : BeaconId) (milliamps : Nat) (s : State) :
    exec (.lampReading beacon milliamps) s =
    .next (if readingDue s beacon then takeReading beacon milliamps s else s) := rfl

theorem exec_flashEdge (s : State) :
    exec .flashEdge s =
    .next (soundNow (mapBeacons (fun _ x => x.edge s) s)) := rfl

theorem exec_reply (frame : List Byte) (s : State) :
    exec (.reply frame) s =
    .next (match awaiting s with
      | some p => nextPoll (settle (takeReply p frame s))
      | none => s) := rfl

theorem exec_replyWindowExpiry (s : State) :
    exec .replyWindowExpiry s =
    .next (match unanswered s with
      | some p => nextPoll (settle (missed p s))
      | none => s) := rfl

theorem exec_pollEnd (s : State) :
    exec .pollEnd s =
    .next (match s.poll.current with
      | some p => if p.window.isSome then s else pollEnded p s
      | none => s) := rfl

theorem exec_undecodableRequest (src : Sender) (body : List Byte) (s : State) :
    exec (.undecodableRequest src body) s =
    .next (viaLink src (takeRaw body) s) := rfl

theorem exec_chassisStatus (data : List Byte) (s : State) :
    exec (.chassisStatus data) s =
    .next (takeChassis data (wake s)) := rfl

theorem exec_freshnessTimerExpiry (s : State) :
    exec .freshnessTimerExpiry s =
    .next (if due s.veh.freshT then settle (becomeStale s) else s) := rfl

theorem exec_cabPresence (_data : List Byte) (s : State) :
    exec (.cabPresence _data) s =
    .next (takePresence (wake s)) := rfl

theorem exec_presenceTimerExpiry (s : State) :
    exec .presenceTimerExpiry s =
    .next (if due s.cab.presenceT then settle (cabLost s) else s) := rfl

theorem exec_firstSegment (data : List Byte) (s : State) :
    exec (.firstSegment data) s =
    .next (ifCab (takeFirst data) (wake s)) := rfl

theorem exec_dataSegment (data : List Byte) (s : State) :
    exec (.dataSegment data) s =
    .next (ifCab (takeData data) (wake s)) := rfl

theorem exec_gapTimerExpiry (s : State) :
    exec .gapTimerExpiry s =
    .next (match s.cab.staging with
      | some g => if g.gapT = 0 then failRun g .gap s else s
      | none => s) := rfl

theorem exec_partStatusPeriodExpiry (s : State) :
    exec .partStatusPeriodExpiry s =
    .next (if due s.tx.periodT then
      sendNext { s with tx := { s.tx with due := true, periodT := some partStatusMs } }
    else s) := rfl

theorem exec_canFrameTransmitted (acknowledged : Bool) (s : State) :
    exec (.canFrameTransmitted acknowledged) s =
    .next (match s.tx.run with
      | some r => if acknowledged then sendNext (frameAcknowledged r s) else s
      | none => s) := rfl

theorem exec_otherIdentifierFrame (ident : CanIdent) (data : List Byte) (s : State) :
    exec (.otherIdentifierFrame ident data) s =
    .next (match rxKind s.cfg ident with
      | some kind => takeFrame kind data (wake s)
      | none => wake s) := rfl

end Sys2Proof.Machine
end

