-- ==== Sys2Proof/WellFormed.lean ====
section
/-! DEFINITION. Which commands can reach the part: operands inside the ranges their sources can send.
A meaning is defined on every command; these checks say which of them are real. -/

namespace Sys2Proof

/-- A request's bytes from a sender: a crew request fits in a Reply of 160 bytes, with 6 bytes of frame
and the kind byte (R144, R179); a cab run carries at most 96 segments of 6 bytes (R159). -/
def Sender.fits (src : Sender) (crewMax cabMax n : Nat) : Bool :=
  match src with
  | .cab => n ≤ cabMax
  | .crew _ _ => n ≤ crewMax

/-- A CAN frame carries at most 8 data bytes (chapter 9). -/
def canData (data : List Byte) : Bool := data.length ≤ 8

/-- A CAN identifier has 29 or 11 bits (R155). -/
def CanIdent.wf (i : CanIdent) : Bool := i.value < (if i.extended then 2 ^ 29 else 2 ^ 11)

/-- The command is one that can reach the part. -/
def Instr.wf : Instr → Bool
  | .submit src block => src.fits 153 156 block.length
  | .cancel _ _ => true
  | .release _ _ => true
  | .clearFlag _ _ => true
  | .rerun _ _ => true
  | .resume _ _ => true
  | .interrogate _ _ => true
  | .blockZone _ _ => true
  | .unblockZone _ _ => true
  | .trafficPermitGrant _ => true
  | .trafficPermitWithdraw _ => true
  | .hold _ _ => true
  | .releaseHold _ => true
  | .emergencyReset _ => true
  | .clearFaults _ _ => true
  | .readStatus _ => true
  | .readConfiguration _ _ => true
  | .writeConfiguration src record => src.fits 153 576 record.length
  | .restart _ _ => true
  | .undecodableRequest src body => !body.isEmpty && src.fits 154 8 body.length
  | .writeConfigurationCompletion => true
  | .powerOn _ => true
  | .sensorSample _ _ position => position < 4096
  | .sampleWatchdogExpiry _ => true
  | .pumpPressureSample bar => bar ≤ 400
  | .latchSwitchChange _ _ => true
  | .channelChange _ _ => true
  | .discrepancyTimerExpiry => true
  | .batteryMeasurement _ => true
  | .ignitionLineChange _ => true
  | .wakeLinePull => true
  | .reply frame => !frame.isEmpty
  | .replyWindowExpiry => true
  | .chassisStatus data => canData data
  | .freshnessTimerExpiry => true
  | .cabPresence data => canData data
  | .presenceTimerExpiry => true
  | .firstSegment data => canData data && data.head? == some 0
  | .dataSegment data => canData data && data.head? != some 0
  | .gapTimerExpiry => true
  | .partStatusPeriodExpiry => true
  | .canFrameTransmitted _ => true
  | .dwellTimerExpiry _ => true
  | .releaseTimerExpiry _ => true
  | .permitTimerExpiry => true
  | .preWarnTimerExpiry _ => true
  | .startTimerExpiry => true
  | .runOnTimerExpiry => true
  | .pressureLossTimerExpiry => true
  | .timeLimitExpiry => true
  | .stallTimerExpiry => true
  | .latchTimerExpiry => true
  | .settleTimerExpiry => true
  | .rampTimerExpiry => true
  | .lampReading _ _ => true
  | .flashEdge => true
  | .standbyTimerExpiry => true
  | .pollEnd => true
  | .otherIdentifierFrame ident data => ident.wf && canData data

end Sys2Proof
end

