-- ==== Sys2Proof/Tests/Slice0.lean ====
section
/-! SUPPORT. The model's own tests: the smoke test of WellFormed, worked examples of the spec (their
expected results are the spec's own figures), and for each statement with hypotheses a witness that
something meets them. -/

namespace Sys2Proof.Tests

open Sys2Proof Sys2Proof.Machine

/-! ## WellFormed: one ill-formed command for each check, which the check refuses -/

set_option maxRecDepth 100000 in
theorem test_wf_submit_too_long :
    (Instr.submit .cab (List.replicate 157 0)).wf = false
      ∧ (Instr.submit (.crew 0 1) (List.replicate 154 0)).wf = false := by
  decide +kernel

set_option maxRecDepth 100000 in
theorem test_wf_writeConfiguration_too_long :
    (Instr.writeConfiguration .cab (List.replicate 577 0)).wf = false
      ∧ (Instr.writeConfiguration (.crew 0 1) (List.replicate 154 0)).wf = false := by
  decide +kernel

set_option maxRecDepth 100000 in
theorem test_wf_undecodable_empty_or_too_long :
    (Instr.undecodableRequest .cab []).wf = false
      ∧ (Instr.undecodableRequest .cab (List.replicate 9 0)).wf = false
      ∧ (Instr.undecodableRequest (.crew 0 1) (List.replicate 155 0)).wf = false := by decide +kernel

theorem test_wf_sample_out_of_range : (Instr.sensorSample 0 false 4096).wf = false := by decide

theorem test_wf_pressure_out_of_range : (Instr.pumpPressureSample 401).wf = false := by decide

theorem test_wf_reply_empty : (Instr.reply []).wf = false := by decide

theorem test_wf_can_data_too_long :
    (Instr.chassisStatus (List.replicate 9 0)).wf = false
      ∧ (Instr.cabPresence (List.replicate 9 0)).wf = false
      ∧ (Instr.firstSegment (List.replicate 9 0)).wf = false
      ∧ (Instr.dataSegment (List.replicate 9 1)).wf = false
      ∧ (Instr.otherIdentifierFrame { extended := true, remote := false, value := 0 }
          (List.replicate 9 0)).wf = false := by decide

theorem test_wf_segment_index :
    (Instr.firstSegment [1]).wf = false ∧ (Instr.dataSegment [0]).wf = false := by decide

theorem test_wf_identifier_out_of_range :
    (Instr.otherIdentifierFrame { extended := true, remote := false, value := 2 ^ 29 } []).wf = false
      ∧ (Instr.otherIdentifierFrame { extended := false, remote := false, value := 2 ^ 11 } []).wf
        = false := by decide

/-! ## A part in working order -/

/-- The LIFT of spec/05 5.10. -/
def lift : AxisCfg where
  present := true
  zone := some 0
  home := 4000
  elo := 20
  ehi := 4010
  rate := 400
  vmin := 150
  creep := 300
  slow := 600
  normal := 900
  ws := 200
  we := 300
  tb := 12
  settle := 200
  ts := 150
  pstall := 200
  latch := false

/-- The FOLD of spec/01 1.4 and spec/03. -/
def fold : AxisCfg := { lift with home := 120, elo := 100, ehi := 3900, tb := 16 }

/-- A door of a zone, as in spec/01 1.4 and spec/05 5.13. -/
def door (z : ZoneId) : AxisCfg :=
  { lift with zone := some z, home := 20, elo := 0, ehi := 3600, tb := 16, latch := true }

/-- A crew station in the Station Table. -/
def stationT (level : Nat) (confirm : Bool) (rights : Byte) : StationCfg :=
  { present := true, role := .pendant, level := level, confirmRight := confirm, rights := rights }

/-- A record in force: axis 2 is absent, beacons 1 to 5 belong to the zones 1 to 5, station 6 is absent. -/
def recordT : Cfg :=
  { Cfg.inFault with
    axes := #v[lift, AxisCfg.absent, fold, door 1, door 2, door 3, door 4]
    beacons := #v[{ mask := 1, lampCheck := true, imin := 150 },
      { mask := 2, lampCheck := true, imin := 150 }, { mask := 4, lampCheck := true, imin := 150 },
      { mask := 8, lampCheck := true, imin := 150 }, { mask := 16, lampCheck := true, imin := 150 },
      { mask := 0, lampCheck := false, imin := 150 }, { mask := 0, lampCheck := false, imin := 150 },
      { mask := 0, lampCheck := false, imin := 150 }]
    stations := #v[stationT 0 true 1, stationT 0 false 6, stationT 1 false 31, stationT 0 false 24,
      stationT 1 true 1, { stationT 0 false 0 with present := false }] }

/-- A crew station that is ONLINE with nothing queued. -/
def onlineT : Crew :=
  { link := .online, miss := 0, good := 0, enable := false, lastTaken := 0, nextNum := 0,
    queue := [] }

/-- A sensor that is VALID at a position. -/
def validT (p : Nat) : Sensor := { state := .valid, last := some p, cand := none, watchdog := some 50 }

/-- A part outside CONFIG_FAULT: every link ONLINE, every sensor VALID at Home, the brake applied. -/
def part : State :=
  { State.reset with
    cfg := recordT
    store := { State.reset.store with fault := false }
    faults := 0
    crew := Vector.replicate 6 onlineT
    sensors := #v[validT 4000, Sensor.unsynced, validT 120, validT 20, validT 20, validT 20, validT 20]
    veh :=
      { status := some { brake := true, speed := 0, ignition := true, engine := false },
        freshT := some 500 }
    cab := { State.reset.cab with presenceT := some 1500 }
    tx := { State.reset.tx with run := none, periodT := some 200 } }

/-- A MOVE of an axis, without flags. -/
def moveT (axis target : Nat) : Machine.Step where
  action := .move
  axis := axis
  target := target
  speed := .normal
  chain := false
  join := false
  acceptShort := false
  pause := false
  notify := false
  holdToRun := false
  dwell := 0

/-- A DWELL of a number of tenths of a second. -/
def dwellT (n : Nat) : Machine.Step := { moveT 0 0 with action := .dwell, dwell := n }

/-- A slot of a station in a state with its steps. -/
def slotT (state : SlotState) (owner : StationId) (steps : List Machine.Step) : Slot :=
  { Slot.empty with
    state := state
    owner := owner
    block := { tag := 7, cls := .routine, rep := .once, confirm := none, steps := steps }
    step := 1 }

/-- The part with slot 1 taken. -/
def withSlot (x : Slot) : State :=
  { part with sm := { part.sm with slots := part.sm.slots.set 0 x } }

/-- A stroke of slot 1 on an axis, in a phase. -/
def strokeT (phase : Phase) (axis : AxisId) : Stroke :=
  { freshStroke 0 1 axis with
    phase := phase, started := true, s := 4000, t := 1000, dist := 3000, dir := .retract, vc := 900,
    limit := 12000 }

/-- The part with slot 1 holding the grant, and its stroke. -/
def holding (x : Slot) (k : Stroke) : State :=
  { withSlot x with
    arb := { part.arb with holder := some 0, pump := .flowing }
    se := { part.se with stroke := some k } }

/-- The levels of the lines of log 2. -/
def levelsT : LineLevels where
  closedA := true
  closedB := true
  battery := 240
  ignition := false
  latchMade := Vector.replicate 4 true

/-- The next state of a command. -/
def after (c : Instr) (s : State) : State :=
  match exec c s with
  | .next t => t
  | .fault _ => s
  | .refused _ => s

/-! ## Worked examples of the spec -/

/-- The check value of "123456789" by R177's generator and start value (spec/11). -/
theorem test_crc16 :
    crc16 [0x31, 0x32, 0x33, 0x34, 0x35, 0x36, 0x37, 0x38, 0x39] = 0x29B1#16 := by decide +kernel

/-- spec/05 5.10: E and L of the full descent, at NORMAL and at CREEP. -/
theorem test_full_descent_limit :
    expectedTime lift 900 200 300 3970 = 12020 ∧ timeLimit 150 500 12020 = 18530
      ∧ expectedTime lift 300 200 300 3970 = 34473 ∧ timeLimit 150 500 34473 = 52209 := by decide

/-- The stroke of spec/05 5.10. -/
def descent : Stroke :=
  { strokeT .driving 0 with s := 4000, t := 30, dist := 3970, vc := 900, ws := 200, we := 300 }

/-- spec/05 5.10: the levels and the arrival of the full descent. -/
theorem test_full_descent_levels :
    driveLevel lift descent 4000 = 150 ∧ driveLevel lift descent 3900 = 525
      ∧ driveLevel lift descent 3800 = 900 ∧ driveLevel lift descent 200 = 575
      ∧ arrivalTest lift descent 40 = true ∧ arrivalTest lift descent 200 = false := by decide

/-- spec/05 5.10: the supply falls at 2000. -/
theorem test_supply_sag :
    effectiveWindows 0 300 1970 = (0, 300) ∧ expectedTime lift 300 0 300 1970 = 17251
      ∧ timeLimit 150 500 17251 = 26376
      ∧ driveLevel lift { descent with s := 2000, dist := 1970, vc := 300, ws := 0 } 200 = 235 := by
  decide

/-- spec/05 5.11: the windows, E, L and the levels of a short stroke. -/
theorem test_short_stroke :
    effectiveWindows 200 300 300 = (120, 180) ∧ expectedTime lift 900 120 180 300 = 1429
      ∧ timeLimit 150 500 1429 = 2643
      ∧ driveLevel lift { descent with dir := .extend, s := 1000, t := 1300, dist := 300, ws := 120,
                                       we := 180 } 1200 = 566 := by decide

/-- spec/05 5.12: both strokes of the joined descent, and the join that would have been dropped. -/
theorem test_joined_descent :
    joinTest .retract 1200 30 12 = true ∧ joinTest .extend 1200 30 12 = false
      ∧ windowsFor lift false .pending 2800 = (200, 0)
      ∧ timeLimit 150 500 (expectedTime lift 900 200 0 2800) = 12764
      ∧ windowsFor lift true .none 1176 = (0, 300)
      ∧ timeLimit 150 500 (expectedTime lift 300 0 300 1176) = 16451 := by decide

/-- spec/05 5.13: the levels of the ramp. -/
theorem test_ramp : rampLevelAt 150 100 600 600 = 400 ∧ rampLevelAt 150 50 600 600 = 200 := by decide

/-- The block of spec/01 1.4, with the Target of its step 3. -/
def pendantBlock (target3 : List Byte) : List Byte :=
  [1, 17, 0x02, 1, 5, 0] ++ [0x13, 0x0E, 0xD8, 0xA2, 0, 0] ++ [0x11, 0x04, 0xB0, 0xB0, 0, 0]
    ++ [0x11] ++ target3 ++ [0x20, 0, 0] ++ [0x20, 0, 0, 0x24, 0, 50]
    ++ [0x11, 0x0F, 0x96, 0x41, 0, 0]

/-- The Slot Table of spec/01 1.4. -/
def pendantPart : State :=
  let x (st : StationId) (tag : Byte) : Slot :=
    { slotT .paused st [moveT 1 30] with
      block := { tag := tag, cls := .routine, rep := .once, confirm := none, steps := [moveT 1 30] } }
  { part with sm := { part.sm with slots :=
      #v[x 3 1, x 1 16, x 3 2, x 1 18, x 3 3, Slot.empty, Slot.empty, Slot.empty, Slot.empty,
        Slot.empty, Slot.empty, Slot.empty] } }

/-- spec/01 1.4: the block is refused JOIN at step 2. -/
theorem test_submit_refused_join :
    submitOutcome pendantPart 1 (pendantBlock [0x04, 0xAB]) = .inl (.join, 2) := by decide +kernel

/-- spec/01 1.4: the corrected block is accepted into slot 6. -/
theorem test_submit_accepted :
    submitOutcome pendantPart 1 (pendantBlock [0x00, 30]) = .inr 5 := by decide +kernel

/-- spec/01 1.4: the answer stands before the PROGRESS notice, and step 1 is queued. -/
theorem test_submit_effect :
    let t := after (.submit (.crew 0 1) (pendantBlock [0x00, 30])) pendantPart
    t.crew[0].queue = [(0, .answer 1 .ok (.submit (some 5) 17 0)), (1, .progress 5 17 1 .stepStarted)]
      ∧ t.sm.queue = [5] := by decide +kernel

/-- spec/01 1.5: check 8 is reached before check 11. -/
theorem test_submit_order_of_checks :
    submitOutcome part 0 ([1, 40, 0x20, 0, 6, 0] ++ [0x36, 0, 0, 0x20, 0, 0]
        ++ [0x16, 0x0D, 0xAC, 0x20, 0, 0] ++ [0x20, 0, 0, 0x21, 0, 10]
        ++ [0x15, 0x0B, 0xB8, 0x20, 0, 0] ++ [0x15, 0x0E, 0x74, 0x20, 0, 0]
        ++ [0x15, 0, 0, 0, 0, 0]) = .inl (.target, 5) := by decide +kernel

/-- The Slot Table of spec/02 2.9: slots 2, 3, 5, 7 and 9. -/
def handOver : State :=
  let x (st : StationId) (c : SeqClass) : Slot :=
    { slotT .queued st [moveT 5 3000] with
      block := { tag := 7, cls := c, rep := .once, confirm := none, steps := [moveT 5 3000] } }
  let slots : Vector Slot 12 := #v[Slot.empty, x 2 .routine, x 1 .routine, Slot.empty,
    x 3 .priority, Slot.empty, x 0 .routine, Slot.empty, x 1 .routine, Slot.empty, Slot.empty,
    Slot.empty]
  { part with sm := { slots := slots, queue := [2, 4, 6, 8] } }

/-- spec/02 2.9: the chained entry stands before the earliest ROUTINE entry; an interrupted PRIORITY
entry without another goes to the tail. -/
theorem test_queue_order :
    insertFront handOver 1 [2, 4, 6, 8] = [1, 2, 4, 6, 8]
      ∧ insertFront handOver 4 [1, 2, 6, 8] = [1, 2, 6, 8, 4] := by decide

/-- spec/02 2.9: station 1 cancels slot 3, which becomes FREE; OK stands before the COMPLETION. -/
theorem test_cancel_queued :
    let t := after (.cancel (.crew 0 9) 3) handOver
    t.sm.queue.contains 2 = false ∧ t.slot 2 = Slot.empty
      ∧ t.crew[0].queue.map (fun n => match n.2 with
          | .answer _ code _ => some code
          | _ => none) = [some .ok, none] := by decide +kernel

/-- Slot 4 of spec/02 2.10 in its dwell. -/
def cycling (flag : Bool) (passes : Nat) : State :=
  withSlot { slotT .dwelling 1 [{ moveT 1 30 with chain := true }, dwellT 20] with
    block := { tag := 7, cls := .routine, rep := .cycle, confirm := none,
               steps := [{ moveT 1 30 with chain := true }, dwellT 20] }
    step := 2
    passCount := passes
    flag := flag
    dwellT := some 0 }

/-- spec/02 2.10: a pass end with the flag clear sets it and starts the next pass; with the flag set it
ends PASS_UNCLEARED at step 2 after pass 3. -/
theorem test_cycle_passes :
    ((after (.dwellTimerExpiry 0) (cycling false 0)).slot 0).passCount = 1
      ∧ ((after (.dwellTimerExpiry 0) (cycling false 0)).slot 0).flag = true
      ∧ ((after (.dwellTimerExpiry 0) (cycling false 0)).slot 0).state = .queued
      ∧ ((after (.dwellTimerExpiry 0) (cycling true 2)).slot 0).state = .completed
      ∧ ((after (.dwellTimerExpiry 0) (cycling true 2)).slot 0).lastEnd = some .passUncleared
      ∧ ((after (.dwellTimerExpiry 0) (cycling true 2)).slot 0).endStep = some 2
      ∧ ((after (.dwellTimerExpiry 0) (cycling true 2)).slot 0).passCount = 3 := by decide +kernel

/-- The two entries of spec/03's conflict example, with the two positions. -/
def rear (foldAt doorAt : Sensor) : State :=
  { part with
    cfg := { recordT with conflicts :=
      [{ guarded := some 2, lo := 400, hi := 3900, blocked := some 4, dir := .extend },
       { guarded := some 4, lo := 300, hi := 3600, blocked := some 2, dir := .both }] }
    sensors := (part.sensors.set 2 foldAt).set 4 doorAt }

/-- spec/03, cases a to f of the conflict example. -/
theorem test_conflicts :
    conflictFails (rear (validT 3800) (validT 20)) 4 20 3000 = true
      ∧ conflictFails (rear (validT 3800) (validT 20)) 2 3800 120 = false
      ∧ conflictFails (rear (validT 120) (validT 20)) 4 20 3000 = false
      ∧ conflictFails (rear (validT 120) (validT 3000)) 2 120 3800 = true
      ∧ conflictFails (rear (validT 120) (validT 3000)) 4 3000 20 = false
      ∧ conflictFails (rear (validT 120) { validT 20 with state := .fault }) 2 120 3800 = true := by
  decide +kernel

/-- spec/03 3.10: station 3 (rights in zone 3) blocks, station 4 is refused, and the cab's Unblock
starts the release timer of 3000 ms. -/
theorem test_zone_block :
    let t := after (.blockZone (.crew 2 1) 3) part
    t.zt.blocks[2].state = .blocked ∧ blockerCount t.zt.blocks[2].set = 1
      ∧ (after (.blockZone (.crew 3 1) 3) t).zt.blocks = t.zt.blocks
      ∧ (after (.unblockZone .cab 3) t).zt.blocks[2].state = .releasing
      ∧ (after (.unblockZone .cab 3) t).zt.blocks[2].releaseT = some 3000 := by decide +kernel

/-- spec/03 3.11: brake released at 4 km/h with a door open enters Drive-Off; speed 0 leaves it. R62: a
QUEUED slot enters it at 3 km/h with every zone HOME; 2 km/h leaves it once no slot waits. -/
theorem test_drive_off :
    let s := { part with zt := { part.zt with position := part.zt.position.set 4 .opened, permitT := some 70000 } }
    let t := after (.chassisStatus [0, 4, 1, 1]) s
    t.zt.driveOff = true ∧ t.zt.permitT = none
      ∧ (after (.chassisStatus [1, 0, 1, 1]) t).zt.driveOff = false
      ∧ (after (.chassisStatus [0, 3, 1, 1]) (withSlot (slotT .queued 1 [moveT 1 1000]))).zt.driveOff = true
      ∧ (after (.chassisStatus [0, 2, 1, 1]) { part with zt := { part.zt with driveOff := true } }).zt.driveOff
        = false := by decide +kernel

/-- spec/07 7.5: a loop whose channel A alone opens, and after 200 ms, not before, is in LOOP_FAULT. -/
theorem test_loop_discrepancy :
    let t := after (.channelChange .a false) part
    let u := after .discrepancyTimerExpiry { t with loop := { t.loop with discT := some 0 } }
    t.loop.state = .tripped ∧ t.loop.discT = some 200 ∧ after .discrepancyTimerExpiry t = t
      ∧ u.loop.state = .loopFault ∧ flagIn u.faults .loop = true
      ∧ (after (.channelChange .a true) u).loop.state = .loopFault := by
  decide +kernel

/-- R135: the owner of the slot that a trip ends finds the ALERT ahead of the COMPLETION notice. -/
theorem test_trip_alert_first :
    let s := holding (slotT .active 1 [moveT 1 1000]) (strokeT .driving 0)
    let q := (after (.channelChange .a false) s).crew[0].queue
    q.head? = some (0, .alert (.loop .tripped .ready false true none)) ∧ q.length = 2 := by decide +kernel

/-- spec/07 7.5: with both channels closed after both were open, CLOSED_WAIT, and READY by the cab. -/
theorem test_loop_recovers :
    let s := { part with loop :=
      { state := .loopFault, closedA := true, closedB := false, discT := none, bothOpen := true } }
    let t := after (.channelChange .b true) s
    t.loop.state = .closedWait ∧ t.loop.bothOpen = false
      ∧ (after (.emergencyReset (.crew 3 1)) t).loop.state = .closedWait
      ∧ (after (.emergencyReset .cab) t).loop.state = .ready := by decide +kernel

/-- R136: the return to READY judges RUN and STANDBY afresh: a part whose ignition is off, with no slot
taken and no zone OPEN, enters STANDBY. -/
theorem test_return_judges_the_power :
    let s := { part with
      veh := { status := none, freshT := none }
      loop := { state := .closedWait, closedA := true, closedB := true, discT := none, bothOpen := false } }
    s.sup.power = .run ∧ (after (.emergencyReset .cab) s).sup.power = .standby
      ∧ (after (.emergencyReset .cab) s).sup.standbyT = some 600000 := by decide +kernel

/-- spec/07 7.6: clearing by naming SENSOR of axis 2 and LAMP of beacon 3. -/
theorem test_clear_faults :
    let lamps := part.bu.beacons.set 2 { part.bu.beacons[2] with lamp := .failed }
    let s := { part with
      faults := flagBit (.sensor 1) ||| flagBit (.lamp 2) ||| flagBit (.sensor 2)
      sensors := (part.sensors.set 1 (validT 0)).set 2 { validT 120 with state := .fault }
      bu := { part.bu with beacons := lamps } }
    (after (.clearFaults (.crew 0 1) (flagBit (.sensor 1) ||| flagBit (.lamp 2))) s).faults
      = flagBit (.lamp 2) ||| flagBit (.sensor 2) := by decide +kernel

/-- A Poll to station 3 that awaits its Reply, its window at the end. -/
def polled (x : Crew) : State :=
  { part with
    crew := part.crew.set 2 x
    poll := { current := some { station := 2, summary := State.resetSummary, lastTaken := 0,
                                notice := x.queue.head?, window := some 0 }
              last := some 2 } }

/-- spec/08 8.9: the third miss in a row makes the station LOST with both counts 0 and its queue empty;
the first leaves it ONLINE with the enable released. -/
theorem test_link_lost :
    let x := { onlineT with enable := true, good := 1,
                            queue := [(42, .alert (.hold .full 1)), (43, .alert (.hold .none 1))] }
    let t := after .replyWindowExpiry (polled { x with miss := 2 })
    t.crew[2].link = .lost ∧ t.crew[2].miss = 0 ∧ t.crew[2].good = 0 ∧ t.crew[2].queue = []
      ∧ (after .replyWindowExpiry (polled x)).crew[2].link = .online
      ∧ (after .replyWindowExpiry (polled x)).crew[2].miss = 1
      ∧ (after .replyWindowExpiry (polled x)).crew[2].enable = false := by decide +kernel

/-- R146: after a round that found no station to poll, the next one begins with the lowest. -/
theorem test_round_begins_anew :
    let nobody := { part with
      cfg := { recordT with stations := Vector.replicate 6 { stationT 0 false 0 with present := false } }
      crew := Vector.replicate 6 { onlineT with link := .absent }
      poll := { current := none, last := some 2 } }
    (nextPoll { nextPoll nobody with cfg := recordT, crew := part.crew }).poll.current.map (·.station)
      = some 0 := by decide +kernel

/-- R127: a lit interval of an unchanged demand goes on through a new look at the demands, and its end
still gives a reading; a beacon that takes up another demand in the middle of the window gives none. -/
theorem test_unchanged_demand_keeps_its_reading :
    let x : Beacon := { demand := .warning, lit := true, lamp := .ok, low := 0, good := 0, fullOn := true }
    let s := { part with bu := { part.bu with
      warns := part.bu.warns.set 0 { state := .warning, preWarnT := some 900, runOut := false }
      beacons := part.bu.beacons.set 0 x, phase := 6100 } }
    (relight s).bu.beacons[(0 : BeaconId)] = x
      ∧ (relight { s with bu := { s.bu with
          beacons := s.bu.beacons.set 0 { x with demand := .opened } } }).bu.beacons[(0 : BeaconId)]
        = { x with fullOn := false } := by decide +kernel

/-- A good Reply of station 3 with the Enable held and no request. -/
def replyT : List Byte := [131, 6, 1, 0] ++ be16v (crc16 [131, 6, 1, 0])

/-- spec/08 8.9: the second good reply in a row brings a LOST station ONLINE. -/
theorem test_link_returns :
    let t := after (.reply replyT) (polled { onlineT with link := .lost })
    t.crew[2].link = .lost ∧ t.crew[2].good = 1
      ∧ (after (.reply replyT) (polled { onlineT with link := .lost, good := 1 })).crew[2].link = .online
      ∧ (after (.reply replyT) (polled { onlineT with link := .lost, good := 1 })).crew[2].enable
        = true := by decide +kernel

/-- spec/09 9.8: a run of 36 bytes; segment 4 in place of 3 is refused WRONG_INDEX. -/
theorem test_segment_lost :
    let s1 := after (.firstSegment [0, 1, 0, 36]) part
    let s2 := after (.dataSegment [2, 0, 0, 0, 0, 0, 0]) (after (.dataSegment [1, 0, 0, 0, 0, 0, 0]) s1)
    let s3 := after (.dataSegment [4, 0, 0, 0, 0, 0, 0]) s2
    s1.cab.staging = some { kind := 1, total := 36, bytes := [], next := 1, gapT := 1000 }
      ∧ s2.cab.staging.map (·.next) = some 3 ∧ s3.cab.staging = none
      ∧ s3.cab.queue.map (·.2) = [.answer 1 .segment (.segment 1 .wrongIndex)]
      ∧ (after (.dataSegment [5, 0, 0, 0, 0, 0, 0]) s3) = s3 := by decide +kernel

/-- R156, R157, R160: a frame that is taken before the expiry of its timer starts the timer again, and the
expiry is then none. -/
theorem test_frame_before_its_expiry :
    let s := { part with
      veh := { part.veh with freshT := some 0 }
      cab := { part.cab with presenceT := some 0, staging := some (Staging.mk 1 12 [] 1 0) } }
    let a := after (.chassisStatus [1, 0, 1, 0]) s
    let b := after (.cabPresence []) s
    let c := after (.dataSegment [1, 0, 0, 0, 0, 0, 0]) s
    (after .freshnessTimerExpiry s).fresh = false ∧ after .freshnessTimerExpiry a = a
      ∧ (after .presenceTimerExpiry s).cabOnline = false ∧ after .presenceTimerExpiry b = b
      ∧ (after .gapTimerExpiry s).cab.staging = none ∧ after .gapTimerExpiry c = c := by decide +kernel

/-- The frame of a Reply of station 3 with the Enable released and a request numbered 1. -/
def replyWith (body : List Byte) : List Byte :=
  let frame := [131, byteOf (6 + body.length), 0, 1] ++ body
  frame ++ be16v (crc16 frame)

/-- Slot 1 QUEUED with a step with H, whose confirm station 3 holds the enable, in a zone that is WARNED
with intent; and a Poll of station 3. -/
def enabledPart : State :=
  let x := { slotT .queued 1 [{ moveT 1 1000 with holdToRun := true }] with
    block := { tag := 7, cls := .routine, rep := .once, confirm := some 2,
               steps := [{ moveT 1 1000 with holdToRun := true }] } }
  { polled { onlineT with enable := true } with
    sm := { (withSlot x).sm with queue := [0] }
    zt := { part.zt with intent := part.zt.intent.set 0 true }
    bu := { part.bu with warns := part.bu.warns.set 0 { state := .warned, preWarnT := none, runOut := false } } }

/-- R165: a frame that reports the engine running gives NORMAL at once and ends the four conditions; one with
the engine off leaves them. -/
theorem test_engine_gives_normal :
    let s := { part with sup := { part.sup with supply := .reduced, belowNormal := some 1 } }
    (after (.chassisStatus [1, 0, 1, 1]) s).sup.supply = .normal
      ∧ (after (.chassisStatus [1, 0, 1, 1]) s).sup.belowNormal = none
      ∧ (after (.chassisStatus [1, 0, 1, 0]) s).sup.supply = .reduced
      ∧ (after (.chassisStatus [1, 0, 1, 0]) s).sup.belowNormal = some 1 := by decide +kernel

/-- R71, R149, R150: a good reply that releases the enable ends the intent of the WARNED zone before the
Submit it carries is taken, so that the Submit's MOVE in that zone starts its pre-warn time anew. -/
theorem test_release_then_submit_warns_anew :
    let t := after (.reply (replyWith [1, 1, 9, 0, 0, 1, 0, 0x11, 0x03, 0xE8, 0x80, 0, 0])) enabledPart
    t.sm.queue = [0, 1] ∧ t.arb.holder = none ∧ (t.slot 1).owner = 3
      ∧ t.bu.warns[(0 : ZoneId)] = { state := .warning, preWarnT := some 1500, runOut := false }
      ∧ (after (.reply (replyWith [])) enabledPart).bu.warns[(0 : ZoneId)].state = .quiet := by
  decide +kernel

/-- spec/10 R164, R165: under 23.0 V for 2000 ms the supply is REDUCED. -/
theorem test_battery_sag :
    let s := { part with clock := 7000, sup := { part.sup with belowNormal := some 5000 } }
    (after (.batteryMeasurement 229) s).sup.supply = .reduced
      ∧ (after (.batteryMeasurement 229) { s with clock := 6999 }).sup.supply = .normal := by
  decide +kernel

set_option maxRecDepth 100000 in
/-- The state after reset is what a start-up makes of the blank store (logs 1 and 2). -/
theorem test_reset_is_a_start_up :
    startUp levelsT none State.reset = State.reset := by
  decide +kernel

/-! ## Witnesses: for each statement with hypotheses, states and operands that meet them -/

/-- Slot 1 with one MOVE of LIFT. -/
def mover (state : SlotState) : Slot := slotT state 1 [moveT 1 1000]

/-- A driven LIFT, with the invariants of the grant. -/
def driving : State := holding (mover .active) { strokeT .driving 0 with limitT := some 0, stallT := some 0 }

/-- LIFT with a controlled stop under way. -/
def stopping (x : Slot) : State :=
  holding { x with state := .stopping } { strokeT .stopping 0 with rampT := some 0 }

/-- The part with a loop record. -/
def loopPart (l : LoopState) (a b mark : Bool) : State :=
  { part with loop := { state := l, closedA := a, closedB := b, discT := some 0, bothOpen := mark } }

/-- A part in PARKED. -/
def parkedPart : State := { part with sup := { part.sup with power := .parked } }

theorem reaches_cab : Reaches .cab part := ⟨rfl, rfl⟩

theorem reaches_crew : Reaches (.crew 0 1) part := ⟨rfl, by decide⟩

/-- Only the states of the slots, the queue, the grant and the strokes matter. -/
theorem motionInv_driving : MotionInv driving := by
  refine ⟨⟨by decide, by decide⟩, ⟨by decide, rfl⟩, by unfold DwellInv; decide, ?_,
    by unfold LoopInv; decide⟩
  intro a h
  have h0 : (0 : AxisId) ≠ a := h _ rfl
  revert h0
  revert a
  decide

theorem witness_StepRunsTheFrontCommand :
    ({ part with pending := [.flashEdge, .wakeLinePull] } : State).pending
      = .flashEdge :: [.wakeLinePull] := rfl

theorem witness_StepOnAnEmptyQueuePassesOneMillisecond : part.pending = [] := rfl

set_option maxRecDepth 100000 in
/-- A power-on with the blank store leaves the record in force. -/
theorem witness_ConfigurationChangesOnlyByWriteOrStartUp :
    ∃ t, exec (.powerOn levelsT) part = .next t
      ∧ (t.cfg ≠ part.cfg ∨ t.store.bytes ≠ part.store.bytes) :=
  ⟨_, rfl, .inl (by decide +kernel)⟩

theorem witness_StepKeepsNoticeBounds :
    NoticeInv driving ∧ ∃ t, step driving = .next t := ⟨⟨by decide, by decide⟩, _, rfl⟩

theorem witness_StepKeepsMotionInvariant :
    MotionInv { driving with pending := [.cancel .cab 1] }
      ∧ ∃ t, step { driving with pending := [.cancel .cab 1] } = .next t :=
  ⟨motionInv_driving, _, rfl⟩

theorem witness_StepKeepsOwnerLaws :
    MotionInv { driving with pending := [.cancel .cab 1] }
      ∧ OwnerInv { driving with pending := [.cancel .cab 1] }
      ∧ ∃ t, step { driving with pending := [.cancel .cab 1] } = .next t :=
  ⟨motionInv_driving, ⟨by decide, by decide⟩, _, rfl⟩

theorem witness_RequestNotHandedOnChangesNothing :
    (requestSender (.cancel .cab 1) = some .cab
      ∧ { part with cab := State.reset.cab }.parked = false
      ∧ ¬ Reaches .cab { part with cab := State.reset.cab })
    ∧ (requestSender (.hold (.crew 0 0) 2) = some (.crew 0 0) ∧ part.parked = false
      ∧ ¬ Reaches (.crew 0 0) part) :=
  ⟨⟨rfl, rfl, fun h => absurd h.1 (by decide)⟩, ⟨rfl, rfl, fun h => h.2 rfl⟩⟩

theorem witness_WakeLeavesParkedBeforeTheFrame :
    parkedPart.parked = true ∧ canFrame (.cabPresence []) = true ∧ canFrame (.hold .cab 2) = true
      ∧ parkedPart.loop.reading .a ≠ false ∧ parkedPart.lines.latchMade[(0 : DoorId)] ≠ false
      ∧ part.parked = false
      ∧ { parkedPart with poll := { current := none, last := some 2 } }.poll.current = none
      ∧ (polled onlineT).poll.current ≠ none ∧ { polled onlineT with sup := parkedPart.sup }.parked = true
      ∧ parkedPart.tx.run = none ∧ State.reset.tx.run ≠ none := by decide

theorem witness_NoticeIsQueuedOrDiscarded :
    part.crew[(0 : CrewId)].link = .online ∧ part.crew[(0 : CrewId)].queue.length < 4
      ∧ (polled { onlineT with link := .lost }).crew[(2 : CrewId)].link ≠ .online
      ∧ { part with cab := State.reset.cab }.cabOnline = false
      ∧ part.cabOnline = true ∧ part.cab.queue.length < 8
      ∧ 8 ≤ ({ part.cab with queue := List.replicate 8 (0, .alert (.hold .full 1)) } : CabPort).queue.length := by
  decide

theorem witness_AcceptedBlockIsSound :
    submitOutcome pendantPart 1 (pendantBlock [0x00, 30]) = .inr 5 := test_submit_accepted

theorem witness_SubmitIsRefusedOrWritesTheSlot :
    Reaches (.crew 0 1) pendantPart
      ∧ submitOutcome pendantPart (senderStation (.crew 0 1)) (pendantBlock [0x04, 0xAB])
        = .inl (.join, 2)
      ∧ submitOutcome pendantPart (senderStation (.crew 0 1)) (pendantBlock [0x00, 30]) = .inr 5 :=
  ⟨⟨rfl, by decide⟩, test_submit_refused_join, test_submit_accepted⟩

/-- A CHECK of an axis. -/
def checkT (axis : Nat) : Machine.Step := { moveT axis 0 with action := .check }

/-- Each of the five cases of R27, and a CHECK that passes: last, and before a step with P, a MOVE and a
DWELL. -/
theorem witness_StepBecomesCurrent :
    ((withSlot { mover .paused with ownerLost := true }).slot 0).curStep = some (moveT 1 1000)
      ∧ ((withSlot { mover .paused with ownerLost := true }).slot 0).ownerLost = true
      ∧ ((withSlot (slotT .paused 1 [{ moveT 1 1000 with pause := true }])).slot 0).curStep
        = some { moveT 1 1000 with pause := true }
      ∧ ((withSlot (mover .paused)).slot 0).ownerLost = false
      ∧ (moveT 1 1000).pause = false ∧ (moveT 1 1000).action = .move
      ∧ ((withSlot (slotT .paused 1 [dwellT 600])).slot 0).curStep = some (dwellT 600)
      ∧ (dwellT 600).action = .dwell
      ∧ ((withSlot (slotT .paused 1 [checkT 2])).slot 0).curStep = some (checkT 2)
      ∧ checkReason (withSlot (slotT .paused 1 [checkT 2])) (slotT .paused 1 [checkT 2]) (checkT 2)
        = some .sensor
      ∧ ((withSlot (slotT .paused 1 [checkT 1])).slot 0).curStep = some (checkT 1)
      ∧ (slotT .paused 1 [checkT 1]).ownerLost = false ∧ (checkT 1).pause = false
      ∧ checkReason (withSlot (slotT .paused 1 [checkT 1])) (slotT .paused 1 [checkT 1]) (checkT 1) = none
      ∧ (checkT 1).chain = false ∧ (slotT .paused 1 [checkT 1]).block.rep ≠ .cycle
      ∧ (∀ nxt ∈ [{ moveT 1 1000 with pause := true }, moveT 1 1000, dwellT 600],
          checkReason part (slotT .paused 1 [{ checkT 1 with chain := true }, nxt])
              { checkT 1 with chain := true } = none
            ∧ (slotT .paused 1 [{ checkT 1 with chain := true }, nxt]).nextStep = some nxt)
      ∧ part.arb.holder ≠ some 0 := by decide

theorem witness_SequenceEndDisposesOfTheSlot :
    ∃ x : Slot, x = (if driving.arb.holder = some 0 then { driving.slot 0 with
        run := { (driving.slot 0).run with
          lastMove := ((driving.slot 0).curAxis.map fun a => (a, driving.sensors[a].last)).or
            (driving.slot 0).run.lastMove } } else driving.slot 0)
      ∧ x.run.lastMove = some (0, some 4000) := ⟨_, rfl, by decide⟩

theorem witness_RefusedRequestOnlyAnswers :
    Reaches (.crew 3 1) handOver ∧ ((0 : Byte) = 0) ∧ 12 < (13 : Byte).toNat
      ∧ (3 : Byte).toNat = (2 : SlotId).val + 1 ∧ (handOver.slot 2).state ≠ .free
      ∧ senderStation (.crew 3 1) ≠ 0 ∧ (handOver.slot 2).owner ≠ senderStation (.crew 3 1)
      ∧ decodeRequest 0 [] = none ∧ decodeRequest 19 [] = none ∧ decodeRequest 2 [] = none
      ∧ handOver.store.fault = false ∧ handOver.loop.state = .ready :=
  ⟨⟨rfl, by decide⟩, by decide⟩

/-- A FREE slot; a COMPLETED one cancelled by its owner; and Resume in CONFIG_FAULT, from a station that is
neither the owner nor the confirm station, and of a slot that is not PAUSED. -/
theorem witness_RefusedRequestOnlyAnswers_states :
    Reaches (.crew 0 1) (withSlot (mover .completed)) ∧ (1 : Byte).toNat = (0 : SlotId).val + 1
      ∧ (part.slot 0).state = .free
      ∧ ((withSlot (mover .completed)).slot 0).state = .completed
      ∧ ((withSlot (mover .completed)).slot 0).owner = senderStation (.crew 0 1)
      ∧ { part with store := { part.store with fault := true } }.store.fault = true
      ∧ senderStation (.crew 1 1) ≠ 0
      ∧ ((withSlot (mover .paused)).slot 0).owner ≠ senderStation (.crew 1 1)
      ∧ ((withSlot (mover .paused)).slot 0).block.confirm.map stationOf
        ≠ some (senderStation (.crew 1 1))
      ∧ ((withSlot (mover .queued)).slot 0).state ≠ .paused
      ∧ ((withSlot (mover .queued)).slot 0).owner = senderStation (.crew 0 1) :=
  ⟨⟨rfl, by decide⟩, by decide⟩

theorem witness_CancelEndsAWaitingSlot :
    Reaches (.crew 0 1) handOver ∧ (12 : Byte).toNat = (11 : SlotId).val + 1
      ∧ (3 : Byte).toNat = (2 : SlotId).val + 1 ∧ handOver.arb.holder ≠ some 2
      ∧ (handOver.slot 2).owner = senderStation (.crew 0 1) ∧ (handOver.slot 2).state = .queued :=
  ⟨⟨rfl, by decide⟩, by decide⟩

/-- An ACTIVE holder with Ts above 0, with Ts at 0, and a STOPPING one. -/
theorem witness_CancelStopsTheHolder :
    Reaches .cab driving ∧ (1 : Byte).toNat = (0 : SlotId).val + 1 ∧ senderStation .cab = 0
      ∧ driving.arb.holder = some 0
      ∧ driving.se.stroke = some { strokeT .driving 0 with limitT := some 0, stallT := some 0 }
      ∧ (driving.slot 0).state = .active ∧ (driving.axisCfg 0).ts ≠ 0
      ∧ ({ driving with cfg := { recordT with axes := recordT.axes.set 0 { lift with ts := 0 } } }.axisCfg 0).ts
        = 0
      ∧ (driving.slot 0).interrupted = false
      ∧ ((stopping (mover .stopping)).slot 0).state = .stopping :=
  ⟨⟨rfl, rfl⟩, by decide⟩

theorem witness_ReleaseFreesAndClearFlagClears :
    Reaches .cab (withSlot (mover .completed)) ∧ (1 : Byte).toNat = (0 : SlotId).val + 1
      ∧ ((withSlot (mover .completed)).slot 0).state = .completed
      ∧ (driving.slot 0).state ≠ .free ∧ (driving.slot 0).state ≠ .completed
      ∧ (driving.slot 0).state ≠ .stopping ∧ (driving.slot 0).owner ≠ senderStation (.crew 1 1)
      ∧ ((stopping (mover .stopping)).slot 0).state = .stopping
      ∧ (part.slot 0).state = .free := ⟨⟨rfl, rfl⟩, by decide⟩

/-- Each refusal of R45 in its order, and a Rerun that passes. -/
theorem witness_RerunBeginsTheRunAnew :
    Reaches (.crew 0 1) (withSlot (mover .completed)) ∧ (1 : Byte).toNat = (0 : SlotId).val + 1
      ∧ (loopPart .tripped true false false).loop.state ≠ .ready
      ∧ part.loop.state = .ready ∧ { part.store with fault := true }.fault = true
      ∧ 12 < (13 : Byte).toNat ∧ (part.slot 0).state = .free ∧ part.store.fault = false
      ∧ ((withSlot (mover .completed)).slot 0).owner ≠ senderStation (.crew 1 1)
      ∧ ((withSlot (mover .completed)).slot 0).owner = senderStation (.crew 0 1)
      ∧ ((withSlot (mover .paused)).slot 0).state ≠ .completed
      ∧ ((withSlot { mover .completed with flag := true }).slot 0).flag = true
      ∧ ((withSlot (mover .completed)).slot 0).state = .completed
      ∧ ((withSlot (mover .completed)).slot 0).flag = false := ⟨⟨rfl, by decide⟩, by decide⟩

/-- The confirm station resumes a DWELL, a MOVE and a CHECK that fails. -/
theorem witness_ResumeStartsThePausedStep :
    Reaches (.crew 4 1) (withSlot (mover .paused)) ∧ (1 : Byte).toNat = (0 : SlotId).val + 1
      ∧ (withSlot (mover .paused)).store.fault = false
      ∧ (withSlot (mover .paused)).arb.holder ≠ some 0
      ∧ (some (4 : CrewId)).map stationOf = some (senderStation (.crew 4 1))
      ∧ ((withSlot (mover .paused)).slot 0).state = .paused
      ∧ ((withSlot (mover .paused)).slot 0).curStep = some (moveT 1 1000)
      ∧ ((withSlot (slotT .paused 1 [dwellT 1])).slot 0).curStep = some (dwellT 1)
      ∧ ((withSlot (slotT .paused 1 [checkT 2])).slot 0).curStep = some (checkT 2)
      ∧ checkReason (withSlot (slotT .paused 1 [checkT 2])) (slotT .paused 1 [checkT 2]) (checkT 2)
        = some .sensor := ⟨⟨rfl, by decide⟩, by decide⟩

theorem witness_QuestionsOnlyAnswer :
    Reaches (.crew 0 1) part ∧ (12 : Byte).toNat = (11 : SlotId).val + 1
      ∧ partSpan 0 = none ∧ (partSpan 1).isSome = true := ⟨reaches_crew, by decide⟩

/-- Zones 0 and 6 are none; station 4 has no rights in zone 3; station 3 has. In zone 1 a slot waits, and in
another state the holder's axis moves. -/
theorem witness_BlockZoneBlocksAndFlushes :
    Reaches (.crew 2 1) driving ∧ 5 < (6 : Byte).toNat ∧ (5 : Byte).toNat = (4 : ZoneId).val + 1
      ∧ driving.store.fault = false ∧ hasRights driving.cfg (senderStation (.crew 3 1)) 2 = false
      ∧ hasRights driving.cfg (senderStation (.crew 2 1)) 4 = true ∧ GrantInv driving
      ∧ driving.zt.blocks[(0 : ZoneId)].state ≠ .blocked
      ∧ hasRights driving.cfg (senderStation (.crew 2 1)) 0 = true ∧ (driving.slot 0).state = .active
      ∧ (driving.slot 0).curAxis.bind driving.axisZone = some 0
      ∧ ((withSlot (mover .paused)).slot 0).curAxis.bind (withSlot (mover .paused)).axisZone = some 0 :=
  ⟨⟨rfl, by decide⟩, by decide, by decide, rfl, by decide, by decide, motionInv_driving.2.1, by decide,
    by decide, by decide, by decide, by decide⟩

/-- The part with a block of station 3 on zone 5, its release timer set. -/
def blockedPart : State :=
  let b := ZoneBlocks.mk ((Vector.replicate 7 false).set 3 true) .blocked (some 0)
  { part with zt := { part.zt with blocks := part.zt.blocks.set 4 b } }

theorem witness_UnblockZoneReleasesAfterTheDelay :
    Reaches (.crew 2 1) blockedPart ∧ Reaches .cab blockedPart
      ∧ (5 : Byte).toNat = (4 : ZoneId).val + 1
      ∧ blockedPart.zt.blocks[(4 : ZoneId)].set[stationOf 2] = true
      ∧ blockedPart.cfg.zones[(4 : ZoneId)].releaseDelay ≠ 0
      ∧ blockedPart.zt.blocks[(4 : ZoneId)].releaseT = some 0
      ∧ part.zt.blocks[(4 : ZoneId)].releaseT ≠ some 0
      ∧ (∀ st : StationId, part.zt.blocks[(4 : ZoneId)].set[st] = false) :=
  ⟨⟨rfl, by decide⟩, ⟨rfl, rfl⟩, by decide⟩

theorem witness_TrafficPermitIsGrantedAndEnds :
    Reaches .cab part ∧ Reaches (.crew 0 1) part ∧ part.store.fault = false
      ∧ part.zt.driveOff = false ∧ roadSpeed part < 3
      ∧ { part with zt := { part.zt with driveOff := true } }.zt.driveOff = true
      ∧ { part with store := { part.store with fault := true } }.store.fault = true
      ∧ part.zt.permitT ≠ some 0
      ∧ { part with zt := { part.zt with permitT := some 0 } }.zt.permitT = some 0 :=
  ⟨reaches_cab, reaches_crew, by decide⟩

/-- Frames of 3 bytes and of 251 km/h are malformed; one of 3 km/h is read, and stops a driven axis. -/
theorem witness_ChassisStatusIsTakenAndGoesStale :
    part.parked = false ∧ ([1, 0, 1] : List Byte).length < 4
      ∧ 250 < (([1, 251, 1, 0] : List Byte).getD 1 0).toNat
      ∧ readChassis [0, 3, 1, 1] = some { brake := false, speed := 3, ignition := true, engine := true }
      ∧ readChassis [1, 0, 1, 1] = some { brake := true, speed := 0, ignition := true, engine := true }
      ∧ anyOpen { part with zt := { part.zt with position := part.zt.position.set 4 .opened } } = true
      ∧ part.veh.freshT ≠ some 0
      ∧ vehicleOk driving = true ∧ driving.parked = false
      ∧ readChassis [1, 0, 1, 0] = some { brake := true, speed := 0, ignition := true, engine := false }
      ∧ vehicleOk { driving with veh := { driving.veh with freshT := some 0 } } = true
      ∧ driving.arb.holder = some 0 ∧ (driving.slot 0).state = .active
      ∧ driving.se.stroke = some { strokeT .driving 0 with limitT := some 0, stallT := some 0 }
      ∧ (driving.axisCfg 0).ts ≠ 0 := by decide

/-- A QUEUED slot, a STOPPING one, and an ACTIVE one with Ts above 0, and none with every zone HOME, at the
speeds where the clauses of Drive-Off meet. -/
theorem witness_DriveOffIsEnteredAndLeft :
    ((withSlot (mover .queued)).slot 0).state = .queued ∧ ((withSlot (mover .stopping)).slot 0).state = .stopping
      ∧ (driving.slot 0).state = .active ∧ (∀ k, driving.se.stroke = some k → (driving.axisCfg k.axis).ts ≠ 0)
      ∧ anyOpen part = false
      ∧ (∀ i, (part.slot i).state ≠ .queued ∧ (part.slot i).state ≠ .active ∧ (part.slot i).state ≠ .stopping)
      ∧ part.zt.driveOff = false ∧ { part.zt with driveOff := true }.driveOff = true
      ∧ part.tx.run = none ∧ State.reset.tx.run ≠ none
      ∧ readChassis [1, 1, 1, 0] = some { brake := true, speed := 1, ignition := true, engine := false }
      ∧ readChassis [1, 2, 1, 0] = some { brake := true, speed := 2, ignition := true, engine := false } := by
  refine ⟨by decide, by decide, by decide, ?_, by decide⟩
  intro k h
  cases h
  decide

/-- Zone 1 WARNED, and slot 1 eligible in it. -/
def eligiblePart : State :=
  { withSlot (mover .queued) with
    sm := { (withSlot (mover .queued)).sm with queue := [0] }
    bu := { part.bu with warns := part.bu.warns.set 0 { state := .warned, preWarnT := none, runOut := false } } }

/-- A door granted a MOVE to its Home from there, its zone WARNED, its switch made or released. -/
def closedDoor (made : Bool) : State :=
  { withSlot (slotT .queued 1 [moveT 4 20]) with
    sm := { (withSlot (slotT .queued 1 [moveT 4 20])).sm with queue := [0] }
    lines := { part.lines with latchMade := Vector.replicate 4 made }
    bu := { part.bu with warns := part.bu.warns.set 1 { state := .warned, preWarnT := none, runOut := false } } }

/-- With the pump OFF and with the pump READY; and at zero travel, with the latch made and released. -/
theorem witness_GrantGoesToTheHighestClassEarliest :
    grantChoice eligiblePart = some 0 ∧ eligiblePart.arb.pump = .off
      ∧ eligiblePart.arb.holder = none ∧ 0 ∈ eligiblePart.sm.queue ∧ eligible eligiblePart 0 = true
      ∧ grantChoice (deriveIntent eligiblePart) = some 0
      ∧ grantChoice { eligiblePart with arb := { eligiblePart.arb with pump := .ready } } = some 0
      ∧ (eligiblePart.slot 0).curStep = some (moveT 1 1000) ∧ (eligiblePart.slot 0).curAxis = some 0
      ∧ (eligiblePart.axisCfg 0).tb < gapOf 1000 (eligiblePart.lastPos 0)
      ∧ (∀ made, grantChoice (closedDoor made) = some 0 ∧ (closedDoor made).arb.pump ≠ .flowing
          ∧ ((closedDoor made).slot 0).curStep = some (moveT 4 20)
          ∧ ((closedDoor made).slot 0).curAxis = some 3
          ∧ gapOf 20 ((closedDoor made).lastPos 3) ≤ ((closedDoor made).axisCfg 3).tb
          ∧ latchMissing (closedDoor made) 3 20 = !made) := by
  decide +kernel

/-- The hold level PARTIAL, for the owner of level 1; zone 1 a traffic-side zone with a permit; and LIFT
blocked while FOLD lies in 400 to 3900. -/
def guardedPart : State :=
  { eligiblePart with
    sm := { eligiblePart.sm with slots := eligiblePart.sm.slots.set 0 { mover .queued with owner := 3 } }
    arb := { eligiblePart.arb with hold := .partly }
    zt := { eligiblePart.zt with permitT := some 1 }
    cfg := { recordT with
      zones := recordT.zones.set 0 { recordT.zones[0] with trafficSide := true }
      conflicts := [{ guarded := some 2, lo := 400, hi := 3900, blocked := some 0, dir := .both }] } }

/-- The masks and the motion checks meet; so does a step with H, whose enable is held. -/
theorem witness_EligibleSlotPassesEveryCheck :
    eligible eligiblePart 0 = true
      ∧ eligible guardedPart 0 = true ∧ guardedPart.arb.hold = .partly
      ∧ guardedPart.cfg.zones[(0 : ZoneId)].trafficSide = true
      ∧ towardHome 4000 1000 (guardedPart.axisCfg 0).home (guardedPart.axisCfg 0).tb = false
      ∧ (guardedPart.axisCfg 0).tb < gapOf 1000 (guardedPart.lastPos 0)
      ∧ (guardedPart.axisCfg 2).present = true ∧ (guardedPart.axisCfg 0).present = true
      ∧ eligible { guardedPart with zt := { guardedPart.zt with permitT := none } } 0 = false
      ∧ eligible { guardedPart with sensors := guardedPart.sensors.set 2 (validT 400) } 0 = false
      ∧ (slotT .queued 1 [{ moveT 1 1000 with holdToRun := true }]).curStep
        = some { moveT 1 1000 with holdToRun := true } := by decide +kernel

theorem witness_HoldRaisesAndReleaseHoldClears :
    Reaches (.crew 2 1) driving ∧ Reaches (.crew 0 1) driving
      ∧ (0 : Byte) ≠ 1 ∧ (3 : Byte) ≠ 2 ∧ driving.arb.hold ≠ .full ∧ driving.arb.hold = .none
      ∧ driving.arb.holder = some 0 ∧ (driving.slot 0).state = .active
      ∧ driving.se.stroke = some { strokeT .driving 0 with limitT := some 0, stallT := some 0 }
      ∧ (driving.axisCfg 0).ts ≠ 0
      ∧ (setHold .full part).arb.hold = .full
      ∧ levelOf driving.cfg (senderStation (.crew 2 1)) = 1
      ∧ levelOf driving.cfg (senderStation (.crew 0 1)) ≠ 1 := by
  refine ⟨⟨rfl, by decide⟩, ⟨rfl, by decide⟩, ?_⟩
  decide

/-- The pump OFF, STARTING, with a stroke in PUMP_WAIT and without, and FLOWING. -/
theorem witness_PressureSampleIsJudgedByThePumpState :
    part.arb.pump = .off ∧ driving.arb.pump = .flowing
      ∧ { part with arb := { part.arb with pump := .starting } }.arb.pump = .starting
      ∧ 59 < part.cfg.pready ∧ part.cfg.pready ≤ 60 ∧ part.se.stroke = none
      ∧ part.arb.holder = none ∧ part.sm.queue = [] ∧ part.arb.runOnT = none
      ∧ runOnInForce part ≠ 0
      ∧ (holding (mover .active) (strokeT .pumpWait 0)).se.stroke = some (strokeT .pumpWait 0)
      ∧ (holding (mover .active) (strokeT .pumpWait 0)).arb.holder = some 0
      ∧ ((holding (mover .active) (strokeT .pumpWait 0)).slot 0).curStep = some (moveT 1 1000)
      ∧ (part.axisCfg 0).tb < gapOf 1000 (part.lastPos 0) := by decide

theorem witness_PumpTimersStopThePump :
    { part with arb := { part.arb with runOnT := some 0 } }.arb.runOnT = some 0
      ∧ { part with arb := { part.arb with startT := some 0 } }.arb.startT = some 0
      ∧ { driving with arb := { driving.arb with lossT := some 0 } }.arb.lossT = some 0
      ∧ part.arb.runOnT ≠ some 0 ∧ part.arb.startT ≠ some 0 ∧ part.arb.lossT ≠ some 0
      ∧ driving.arb.holder = some 0 := by decide

/-- LIFT's sensor in its three states, and the bounds of 8 and 256 counts. -/
theorem witness_SampleMovesTheSensorState :
    (part.axisCfg 1).present = false ∧ (part.axisCfg 0).present = true
      ∧ Sensor.unsynced.state = .unsynced
      ∧ ((4008 : Nat) ≤ 4000 + 8 ∧ 4000 ≤ 4008 + 8 ∧ 4000 + 8 < 4009)
      ∧ part.sensors[(0 : AxisId)].state = .valid ∧ part.sensors[(0 : AxisId)].last = some 4000
      ∧ (4000 ≤ 3744 + 256 ∧ 3743 + 256 < 4000)
      ∧ driving.arb.holder = some 0 ∧ (driving.slot 0).curAxis = some 0
      ∧ driving.sensors[(0 : AxisId)].last = some 4000
      ∧ ({ validT 0 with state := .fault } : Sensor).state = .fault := by decide

/-- LIFT driven to its target 1000, near it, in the first step of two. -/
def joining (j : JoinState) : State :=
  let s := holding (slotT .active 1 [{ moveT 1 1000 with chain := true, join := true }, moveT 1 30])
    { strokeT .driving 0 with join := j }
  { s with sensors := s.sensors.set 0 (validT 1100) }

/-- Samples that show LIFT past its target by 13 counts, within 12 counts of it on each side, and 13
counts before it, with a join and without; and LIFT in a controlled stop. -/
theorem witness_SampleMovesTheStroke :
    OverAt lift (strokeT .driving 0) 987 ∧ ¬ OverAt lift (strokeT .driving 0) 988
      ∧ ArrivedAt lift (strokeT .driving 0) 988 ∧ ArrivedAt lift (strokeT .driving 0) 1012
      ∧ ¬ ArrivedAt lift (strokeT .driving 0) 1013 ∧ ¬ OverAt lift (strokeT .driving 0) 1013
      ∧ (∀ j ∈ [JoinState.none, JoinState.pending],
          (joining j).se.stroke = some { strokeT .driving 0 with join := j }
          ∧ (joining j).sensors[(0 : AxisId)].last = some 1100 ∧ (joining j).arb.holder = some 0
          ∧ ((joining j).slot 0).curAxis = some 0
          ∧ ((joining j).slot 0).nextStep = some (moveT 1 30))
      ∧ lift.tb < gapOf 30 988 ∧ lift.settle ≠ 0
      ∧ (stopping (mover .stopping)).se.stroke = some { strokeT .stopping 0 with rampT := some 0 } := by
  refine ⟨.inl (by decide), ?_, ⟨by decide, by decide⟩, ⟨by decide, by decide⟩,
    fun h => absurd h.2 (by decide), ?_, by decide⟩ <;> unfold OverAt <;> decide

theorem witness_WatchdogExpiryFaultsTheSensor :
    driving.sensors[(0 : AxisId)].watchdog ≠ some 0
      ∧ ({ validT 4000 with watchdog := some 0 } : Sensor).watchdog = some 0
      ∧ driving.arb.holder = some 0
      ∧ (driving.slot 0).curAxis = some 0 := by decide

/-- Each timer over and not over; a step without A, and one with A that is last, before a step with P and in a
CYCLE block. -/
theorem witness_StrokeTimersEndTheStroke :
    driving.se.stroke = some { strokeT .driving 0 with limitT := some 0, stallT := some 0 }
      ∧ driving.arb.holder = some 0 ∧ (driving.slot 0).curStep = some (moveT 1 1000)
      ∧ (strokeT .driving 0).limitT ≠ some 0 ∧ (strokeT .driving 0).stallT ≠ some 0
      ∧ (strokeT .driving 0).latchT ≠ some 0
      ∧ (holding (mover .active) { strokeT .latchWait 0 with latchT := some 0 }).se.stroke
        = some { strokeT .latchWait 0 with latchT := some 0 }
      ∧ (moveT 1 1000).acceptShort = false ∧ (moveT 1 1000).chain = false
      ∧ (driving.slot 0).block.rep ≠ .cycle
      ∧ ((holding (slotT .active 1 [{ moveT 1 1000 with acceptShort := true }]) (strokeT .driving 0)).slot 0).curStep
        = some { moveT 1 1000 with acceptShort := true }
      ∧ (slotT .active 1 [{ moveT 1 1000 with acceptShort := true, chain := true },
          { moveT 1 30 with pause := true }]).nextStep = some { moveT 1 30 with pause := true }
      ∧ ({ (slotT .active 1 []).block with rep := .cycle } : Block).rep = .cycle := by decide

/-- A settling stroke of slot 1 on an axis, that came to rest at a position, in its last step. -/
def settling (axis : AxisId) (p : Nat) : State :=
  { holding (slotT .active 1 [moveT (axis.val + 1) 1000])
      { strokeT .settling axis with settleT := some 0, t := 1000 } with
    sensors := part.sensors.set axis (validT p) }

/-- 13 counts past the target, 13 counts before it, within Tb 12, and a door at Home with its switch
released. -/
theorem witness_SettleExpiryJudgesTheEnd :
    (toGo .retract 1000 ((settling 0 987).lastPos 0) < -(((settling 0 987).axisCfg 0).tb : Int)
      ∧ ((settling 0 987).slot 0).curStep = some (moveT 1 1000)
      ∧ (settling 0 987).arb.holder = some 0)
    ∧ ((((settling 0 1013).axisCfg 0).tb : Int) < toGo .retract 1000 ((settling 0 1013).lastPos 0)
      ∧ latchMissing (settling 0 1013) 0 1000 = false)
    ∧ (-(((settling 0 988).axisCfg 0).tb : Int) ≤ toGo .retract 1000 ((settling 0 988).lastPos 0)
      ∧ toGo .retract 1000 ((settling 0 1012).lastPos 0) ≤ (((settling 0 1012).axisCfg 0).tb : Int)
      ∧ latchMissing (settling 0 1012) 0 1000 = false)
    ∧ (latchMissing { settling 3 20 with lines := { part.lines with latchMade := Vector.replicate 4 false } }
        3 20 = true
      ∧ -(((settling 3 20).axisCfg 3).tb : Int) ≤ toGo .retract 20 ((settling 3 20).lastPos 3)) := by
  decide

/-- An ending, an interruption and an interruption of a lost owner's slot. -/
theorem witness_RampExpiryActsOnTheOutcome :
    (stopping { mover .stopping with lastEnd := some .vehicle }).se.stroke
        = some { strokeT .stopping 0 with rampT := some 0 }
      ∧ (stopping (mover .stopping)).arb.holder = some 0
      ∧ ((stopping { mover .stopping with lastEnd := some .vehicle }).slot 0).lastEnd = some .vehicle
      ∧ ((stopping { mover .stopping with lastEnd := some .vehicle }).slot 0).interrupted = false
      ∧ ((stopping { mover .stopping with interrupted := true }).slot 0).interrupted = true
      ∧ ((stopping { mover .stopping with interrupted := true, ownerLost := true }).slot 0).ownerLost
        = true
      ∧ (strokeT .stopping 0).rampT ≠ some 0 := by decide

theorem witness_EffectiveWindowsFitTheTravel : 200 + 300 ≤ 500 ∧ 499 < 200 + 300 := by decide

theorem witness_DriveLevelStaysWithinVminAndCeiling :
    lift.vmin ≤ descent.vc ∧ descent.ws ≤ min (gapOf 3800 descent.s) descent.dist
      ∧ descent.we ≤ remaining descent.dir descent.t 3800 ∧ 0 < descent.ws := by decide

/-- The end of the Settle time in a chained step, and in a step with A. -/
theorem witness_SettleExpiryCompletes :
    let x := slotT .active 1 [{ moveT 1 1000 with chain := true, acceptShort := true }, moveT 1 30]
    let s := { settling 0 1013 with sm := (withSlot x).sm }
    (s.slot 0).curStep = some { moveT 1 1000 with chain := true, acceptShort := true }
      ∧ (s.slot 0).nextStep = some (moveT 1 30) ∧ s.arb.holder = some 0
      ∧ s.se.stroke = some { strokeT .settling 0 with settleT := some 0, t := 1000 }
      ∧ (strokeT .settling 0).settleT ≠ some 0
      ∧ ((s.axisCfg 0).tb : Int) < toGo .retract 1000 (s.lastPos 0)
      ∧ toGo .retract 1000 (({ s with sensors := s.sensors.set 0 (validT 1012) }).lastPos 0)
        ≤ ((s.axisCfg 0).tb : Int) := by decide

/-- LIFT holds the grant while FOLD waits in the same zone, whose pre-warn time is over. -/
def warning : State :=
  let s := holding (mover .active) (strokeT .driving 0)
  { s with
    sm := { slots := s.sm.slots.set 1 (slotT .queued 2 [moveT 3 1000]), queue := [1] }
    bu := { s.bu with warns := s.bu.warns.set 0 { state := .warning, preWarnT := some 0, runOut := false } } }

/-- The pre-warn time of zone 1 is over for slot 1, which waits for it alone. -/
theorem witness_PreWarnExpiryGrants :
    let s := { eligiblePart with bu := { eligiblePart.bu with
      warns := eligiblePart.bu.warns.set 0 { state := .warning, preWarnT := some 0, runOut := false } } }
    s.arb.holder = none ∧ s.zt.driveOff = false ∧ roadSpeed s < 3 ∧ s.sm.queue = [0]
      ∧ maskHas s.cfg.beacons[(0 : BeaconId)].mask 0 = true ∧ s.bu.beacons[(0 : BeaconId)].lamp = .ok
      ∧ (s.slot 0).curStep = some (moveT 1 1000) ∧ (s.slot 0).curAxis = some 0
      ∧ s.axisZone 0 = some 0 ∧ s.arb.pump = .off ∧ eligible s 0 = false
      ∧ eligible (modWarn 0 (fun _ => { state := .warned, preWarnT := none, runOut := false }) s) 0
        = true := by
  decide +kernel

theorem witness_PreWarnExpiryWarnsTheZone :
    warning.bu.warns[(0 : ZoneId)].preWarnT = some 0 ∧ part.bu.warns[(0 : ZoneId)].preWarnT ≠ some 0
      ∧ warning.arb.holder = some 0
      ∧ NoDriveOffEntry warning ∧ intentNow warning 0 = true
      ∧ maskHas warning.cfg.beacons[(0 : BeaconId)].mask 0 = true
      ∧ warning.bu.beacons[(0 : BeaconId)].lamp = .ok :=
  ⟨by decide, by decide, by decide, .inr (by decide), by decide +kernel, by decide, by decide⟩

/-- Intent that starts in a QUIET zone, goes on in a WARNED one and ends there, with a stroke in the zone and
without. -/
theorem witness_IntentStartsAndEnds :
    let quiet := { eligiblePart with bu := part.bu }
    intentNow quiet 0 = true ∧ quiet.zt.intent[(0 : ZoneId)] = false
      ∧ quiet.bu.warns[(0 : ZoneId)].state = .quiet ∧ quiet.cfg.zones[(0 : ZoneId)].preWarn ≠ 0
      ∧ intentNow eligiblePart 0 = true ∧ eligiblePart.bu.warns[(0 : ZoneId)].state ≠ .quiet
      ∧ intentNow { part with bu := eligiblePart.bu } 0 = false
      ∧ hasStroke { part with bu := eligiblePart.bu } 0 = false
      ∧ intentNow driving 0 = false ∧ hasStroke driving 0 = true := by decide +kernel

/-- Beacon 1 dark after a full on-phase of WARNING (on-window 250 of 500 ms). -/
def readable : State :=
  { part with bu := { part.bu with
      beacons := part.bu.beacons.set 0
        { demand := .warning, lit := false, lamp := .ok, low := 2, good := 0, fullOn := true }
      phase := 6250 } }

theorem witness_LampReadingsAreCounted :
    readingDue part 0 = false ∧ readingDue readable 0 = true
      ∧ 149 < readable.cfg.beacons[(0 : BeaconId)].imin
      ∧ readable.cfg.beacons[(0 : BeaconId)].imin ≤ 150
      ∧ 2 ≤ readable.bu.beacons[(0 : BeaconId)].low := by decide

/-- The third good reading in a row of a FAILED lamp, in a zone with intent that waits with its pre-warn run
out while LIFT holds the grant. -/
theorem witness_LampRecovers :
    let b : Beacon := { demand := .warning, lit := false, lamp := .failed, low := 0, good := 2, fullOn := true }
    let s := { warning with
      zt := { warning.zt with intent := warning.zt.intent.set 0 true }
      bu := { warning.bu with
        warns := warning.bu.warns.set 0 { state := .warning, preWarnT := none, runOut := true }
        beacons := warning.bu.beacons.set 0 b
        phase := 6250 } }
    readingDue s 0 = true ∧ s.arb.holder = some 0 ∧ NoDriveOffEntry s ∧ intentNow s 0 = true
      ∧ s.zt.intent[(0 : ZoneId)] = true ∧ s.bu.beacons[(0 : BeaconId)].lamp = .failed
      ∧ (after (.lampReading 0 150) s).bu.beacons[(0 : BeaconId)].lamp = .ok
      ∧ maskHas s.cfg.beacons[(0 : BeaconId)].mask 0 = true :=
  ⟨by decide +kernel, by decide, .inr (by decide), by decide +kernel, by decide, by decide,
    by decide +kernel, by decide⟩

/-- The demands: Drive-Off; a loop that is not READY, a FAULT of an axis of the zone; and neither. -/
theorem witness_FlashEdgeFollowsThePhase :
    { part with zt := { part.zt with driveOff := true } }.zt.driveOff = true
      ∧ part.zt.driveOff = false ∧ part.loop.state = .ready
      ∧ (loopPart .tripped true false false).loop.state ≠ .ready
      ∧ (part.axisCfg 0).present = true ∧ part.axisZone 0 = some 0
      ∧ (∀ a : AxisId, part.sensors[a].state ≠ .fault)
      ∧ part.store.fault = false ∧ { part.store with fault := true }.fault = true := by decide

theorem witness_OpenChannelTripsTheLoop :
    driving.parked = false ∧ MotionInv driving ∧ driving.loop.state = .ready
      ∧ driving.loop.closedA = true ∧ driving.loop.closedB = true :=
  ⟨rfl, motionInv_driving, rfl, rfl, rfl⟩

/-- A change in TRIPPED, CLOSED_WAIT and LOOP_FAULT, and one that is no change. -/
theorem witness_LoopStatesOutsideReady :
    part.loop.reading .a = true
      ∧ ((loopPart .tripped false true false).parked = false
        ∧ (loopPart .tripped false true false).loop.state ≠ .ready
        ∧ (loopPart .tripped false true false).loop.reading .a ≠ true)
      ∧ ((loopPart .closedWait true true false).loop.state ≠ .ready
        ∧ (loopPart .closedWait true true false).loop.reading .b ≠ false)
      ∧ ((loopPart .loopFault true false true).loop.state ≠ .ready
        ∧ (loopPart .loopFault true false true).loop.reading .b ≠ true)
      ∧ (loopPart .tripped false true false).loop.discT = some 0 ∧ part.loop.discT ≠ some 0
      ∧ (after (.channelChange .a true) (loopPart .tripped false true false)).loop.state = .closedWait
      ∧ (after (.channelChange .b false) (loopPart .tripped true false false)).loop.state = .tripped
      ∧ (after (.channelChange .b true) (loopPart .loopFault true false true)).loop.state = .closedWait
      ∧ (after (.channelChange .a false) (loopPart .loopFault true false true)).loop.state = .loopFault := by
  decide +kernel

theorem witness_EmergencyResetNeedsClosedWait :
    Reaches (.crew 2 1) (loopPart .closedWait true true false)
      ∧ (loopPart .closedWait true true false).store.fault = false
      ∧ levelOf recordT (senderStation (.crew 2 1)) = 1
      ∧ levelOf recordT (senderStation (.crew 0 1)) ≠ 1
      ∧ (loopPart .closedWait true true false).loop.state = .closedWait
      ∧ part.loop.state ≠ .closedWait := ⟨⟨rfl, by decide⟩, by decide⟩

/-- Bit 26 names no flag; bit 25 does. -/
theorem witness_ClearFaultsClearsTheNamedFlags :
    Reaches (.crew 0 1) part ∧ (0x04000000#32 >>> 26 ≠ 0#32) ∧ (0x02000000#32 >>> 26 = 0#32)
      ∧ flagIn (flagBit .pump) .pump = true ∧ { part.arb with pump := .fault }.pump = .fault :=
  ⟨reaches_crew, by decide⟩

/-- The engine off and running; the belowExh condition held for 2000 ms and for 1999 ms. -/
theorem witness_BatteryMeasurementIsTimed :
    engineRunning part = false
      ∧ engineRunning { part with veh := { part.veh with
          status := some { brake := true, speed := 0, ignition := true, engine := true } } } = true
      ∧ part.cfg.tx ≤ part.cfg.tn ∧ part.sup.supply = .normal
      ∧ (after (.batteryMeasurement 200)
          { part with clock := 2000, sup := { part.sup with belowExh := some 0 } }).sup.belowExh = some 0
      ∧ 0 + 2000 ≤ 2000 := by decide +kernel

/-- A condition timed from 0 has held at 2000 ms and not at 1999 ms; so each change of the supply state. -/
theorem witness_BatteryConditionsAreHeld :
    Held 2000 (some 0) ∧ ¬ Held 1999 (some 0) ∧ ¬ Held 2000 none
      ∧ (after (.batteryMeasurement 229)
          { part with clock := 2000, sup := { part.sup with belowNormal := some 0 } }).sup.supply = .reduced
      ∧ (after (.batteryMeasurement 219) { part with
          clock := 2000, sup := { part.sup with supply := .exhausted, aboveExh := some 0 } }).sup.supply
        = .reduced
      ∧ (after (.batteryMeasurement 234) { part with
          clock := 2000, sup := { part.sup with supply := .exhausted, aboveNormal := some 0 } }).sup.supply
        = .normal := by
  refine ⟨⟨0, rfl, by decide⟩, ?_, ?_, by decide +kernel⟩ <;> rintro ⟨t0, h, h2⟩ <;> cases h
  exact absurd h2 (by decide)

/-- The supply falls from NORMAL while LIFT drives, and while a stroke waits for its latch or the pump. -/
theorem witness_SupplyFallClampsTheStroke :
    let sag (s : State) : State := { s with clock := 2000, sup := { s.sup with belowNormal := some 0 } }
    (∀ ph ∈ [Phase.driving, .latchWait, .pumpWait, .settling],
      let s := sag (holding (mover .active) (strokeT ph 0))
      engineRunning s = false ∧ s.sup.supply = .normal
        ∧ (after (.batteryMeasurement 229) s).sup.supply = .reduced
        ∧ s.se.stroke = some (strokeT ph 0) ∧ s.arb.holder = some (strokeT ph 0).slot)
      ∧ NoDriveOffEntry (sag driving) :=
  ⟨by decide +kernel, .inr (by decide)⟩

theorem witness_IgnitionChangeJudgesThePower :
    part.lines.ignition = false ∧ parkedPart.parked = true ∧ parkedPart.lines.ignition = false
      ∧ { parkedPart with lines := { part.lines with ignition := true } }.lines.ignition = true
      ∧ part.parked = false ∧ part.lines.ignition ≠ true
      ∧ ignitionOn { part with veh := { part.veh with freshT := none } } = false := by decide

theorem witness_StandbyExpiryParks :
    { part with sup := { part.sup with power := .standby, standbyT := some 0 } }.sup.standbyT = some 0
      ∧ part.sup.standbyT ≠ some 0 := by decide

/-- A door's stroke in LATCH_WAIT, and no stroke. -/
theorem witness_LatchSwitchIsRead :
    part.parked = false ∧ part.lines.latchMade[(3 : DoorId)] = true
      ∧ part.lines.latchMade[(3 : DoorId)] ≠ false
      ∧ (holding (slotT .active 1 [moveT 7 3000]) (strokeT .latchWait 6)).se.stroke
        = some (strokeT .latchWait 6)
      ∧ (strokeT .latchWait 6).phase = .latchWait ∧ (strokeT .latchWait 6).axis = doorAxis 3
      ∧ part.se.stroke = none := by decide

/-- The bytes of an axis record with the windows, levels and times of spec/05 5.10. -/
def axisBytes (zone home elo ehi tb : Nat) (latch : Byte) : List Byte :=
  [nibbles 1 zone] ++ [home, elo, ehi, 400, 150, 300, 600, 900, 200, 300].flatMap be16
    ++ [byteOf tb] ++ [200, 150, 200].flatMap be16 ++ [latch]

/-- The bytes of a record, in R183's order, before its check value. -/
def recordBody : List Byte :=
  [60, 15, 230, 215] ++ [1500, 2000, 150, 500, 30].flatMap be16 ++ be32 0x0C4A2000
    ++ axisBytes 1 4000 20 4010 12 0 ++ axisBytes 1 100 0 4000 16 0 ++ axisBytes 1 120 100 3900 16 0
    ++ [2, 3, 4, 5].flatMap (fun z => axisBytes z 20 0 3600 16 1)
    ++ (List.replicate 5 (nibbles 0 1 :: [1500, 3000].flatMap be16)).flatten
    ++ [1] ++ ([3] ++ [400, 3900].flatMap be16 ++ [nibbles 5 1]) ++ List.replicate 90 0
    ++ [1, 2, 4, 8, 16, 31, 31, 31].flatMap (fun m => [m, 1, 0, 150])
    ++ [nibbles 1 3, nibbles 3 2, nibbles 6 3, nibbles 7 1]
    ++ (List.replicate 6 [0x51, 31]).flatten

/-- A record with every field in its range. -/
def recordBytes : List Byte := recordBody ++ be16v (crc16 recordBody)

set_option maxRecDepth 100000 in
/-- R172: the record has 393 bytes and no field fails; a Pready of 19 fails as field 1. -/
theorem test_record_in_range :
    recordBytes.length = 393 ∧ rangeFailure recordBytes = none
      ∧ rangeFailure (19 :: recordBytes.tail) = some 1 := by decide +kernel

set_option maxRecDepth 100000 in
/-- R174, R154: the completion is answered OK with the new check value, and a station that was ABSENT and is
now present is SEARCHING. -/
theorem test_write_completes :
    let t := after .writeConfigurationCompletion { part with
      store := { part.store with programming := some recordBytes }
      crew := part.crew.set 5 { onlineT with link := .absent, good := 1 } }
    t.cab.queue.map (·.2) = [.answer 17 .ok (.written (carriedCheck recordBytes) false)]
      ∧ t.crew[5].link = .searching ∧ t.crew[5].good = 0 ∧ t.crew[4].link = .online := by decide +kernel

set_option maxRecDepth 100000 in
/-- A record of zeros fails its ranges. -/
theorem witness_WriteConfigurationProgramsTheStore :
    Reaches (.crew 0 1) part ∧ Reaches .cab part ∧ (List.replicate 393 (0 : Byte)).length = 393
      ∧ part.store.programming = none
      ∧ { part.store with programming := some (List.replicate 393 0) }.programming
        = some (List.replicate 393 0)
      ∧ (∀ i, (part.slot i).state = .free) ∧ part.loop.state = .ready ∧ part.sup.power = .run
      ∧ part.fresh = true
      ∧ part.veh.status = some { brake := true, speed := 0, ignition := true, engine := false }
      ∧ (rangeFailure (List.replicate 393 0)).isSome = true
      ∧ rangeFailure recordBytes = none ∧ recordBytes.length = 393
      ∧ ([0] : List Byte).length ≠ 393
      ∧ ((withSlot (mover .paused)).slot 0).state ≠ .free
      ∧ part.store.fault = false ∧ State.reset.store.fault = true :=
  ⟨reaches_crew, reaches_cab, by decide +kernel, rfl, rfl, by decide, rfl, rfl, rfl, rfl,
    by decide +kernel, test_record_in_range.2.1, test_record_in_range.1, by decide, by decide, rfl, rfl⟩

theorem witness_StartUpResetsThePart :
    Reaches .cab part ∧ part.store.programming = none ∧ (∀ i, (part.slot i).state = .free)
      ∧ ∃ l : LineLevels, l = { closedA := part.loop.closedA, closedB := part.loop.closedB, battery := 215
                                ignition := part.lines.ignition, latchMade := part.lines.latchMade } :=
  ⟨reaches_cab, rfl, by decide, _, rfl⟩

/-- Restart from a crew station, during programming, and with a slot that is not FREE. -/
theorem witness_RestartIsRefused :
    Reaches (.crew 0 1) part ∧ Reaches .cab (withSlot (mover .paused))
      ∧ { part.store with programming := some [] }.programming ≠ none
      ∧ (withSlot (mover .paused)).store.programming = none
      ∧ ((withSlot (mover .paused)).slot 0).state ≠ .free :=
  ⟨reaches_crew, ⟨rfl, rfl⟩, by decide⟩

/-- A Reply to a Poll that carried the notice numbered 42. -/
theorem witness_GoodReplyCountsAndSetsTheEnable :
    let s := polled { onlineT with queue := [(42, .alert (.hold .full 1))] }
    (awaiting s).map (·.station) = some 2
      ∧ readReply 2 replyT = some { enable := true, number := 0, body := [] }
      ∧ s.crew[(2 : CrewId)].link ≠ .absent
      ∧ (awaiting s).bind (·.notice) = some (42, .alert (.hold .full 1))
      ∧ s.crew[(2 : CrewId)].queue = (42, .alert (.hold .full 1)) :: []
      ∧ readReply 2 (replyWith [2, 1]) = some { enable := false, number := 1, body := [2, 1] } := by
  decide +kernel

/-- After station 3 the round goes to station 4, and after the last to the first; none is polled in PARKED,
or where every station is ABSENT. -/
theorem witness_PollFollows :
    NextOfRound part (some 2) 3 ∧ NextOfRound part (some 5) 0 ∧ NextOfRound part none 0
      ∧ parkedPart.parked = true
      ∧ (∀ c : CrewId, ({ part with crew := Vector.replicate 6 { onlineT with link := .absent } }).crew[c].link
          = .absent) := by
  refine ⟨⟨by decide, .inl ⟨2, rfl, by decide, by decide⟩⟩, ⟨by decide, .inr ⟨?_, by decide⟩⟩,
    ⟨by decide, .inr ⟨fun l d h => (nomatch h), by decide⟩⟩, by decide, by decide⟩
  intro l d h
  cases h
  revert d
  decide

theorem witness_MissReleasesTheEnable :
    (awaiting (polled { onlineT with miss := 2 })).map (·.station) = some 2
      ∧ readReply 2 [] = none
      ∧ (awaiting (polled { onlineT with miss := 2 })).map (·.window) = some (some 0)
      ∧ (polled { onlineT with miss := 2 }).crew[(2 : CrewId)].link = .online := by decide

/-- Station 3 misses while it holds the enable of a driven step with H. -/
theorem witness_MissStopsTheHoldToRunStep :
    let x := { mover .active with
      block := { (mover .active).block with confirm := some 2, steps := [{ moveT 1 1000 with holdToRun := true }] } }
    let s := { polled { onlineT with enable := true } with
      sm := (withSlot x).sm, arb := driving.arb, se := driving.se }
    (awaiting s).map (·.station) = some 2 ∧ s.crew[(2 : CrewId)].enable = true
      ∧ s.arb.holder = some 0 ∧ (s.slot 0).state = .active ∧ s.se.stroke = driving.se.stroke
      ∧ (s.axisCfg 0).ts ≠ 0 ∧ (s.slot 0).curStep = some { moveT 1 1000 with holdToRun := true }
      ∧ (s.slot 0).block.confirm = some 2 := by decide

theorem witness_PollEndOpensTheReplyWindow :
    part.poll.current.map (·.window) = some none ∧ awaiting part = none
      ∧ (none : Timer) ≠ some 0 := by decide

theorem witness_CabPresenceIsTimedAndLost :
    part.parked = false ∧ part.cab.presenceT ≠ some 0
      ∧ { part.cab with presenceT := some 0 }.presenceT = some 0
      ∧ (∀ j, j ≠ (0 : SlotId) → ((withSlot (slotT .queued 0 [moveT 1 1000])).slot j).owner = 0 →
          ((withSlot (slotT .queued 0 [moveT 1 1000])).slot j).state ≠ .queued)
      ∧ ((withSlot (slotT .queued 0 [moveT 1 1000])).slot 0).owner = 0
      ∧ (withSlot (slotT .queued 0 [moveT 1 1000])).arb.holder ≠ some 0
      ∧ ((withSlot (slotT .dwelling 0 [dwellT 1])).slot 0).state = .dwelling := by decide

/-- A run of 7 bytes: its first segment, its segments 1 and 2 of 2, and a wrong index; a gap timer at its end
and one that runs; and first segments that are short, of another kind, of length 0 and too long. -/
theorem witness_SegmentsAreGathered :
    Reaches .cab part ∧ part.cab.staging = none ∧ 4 ≤ ([0, 1, 0, 156] : List Byte).length
      ∧ 0 < u16 [0, 1, 0, 156] 2 ∧ u16 [0, 1, 0, 156] 2 ≤ 156
      ∧ u16 [0, 17, 2, 64] 2 ≤ 576 ∧ ([0, 17, 2, 64] : List Byte).getD 1 0 = 17
      ∧ (after (.firstSegment [0, 1, 0, 7]) part).cab.staging
        = some { kind := 1, total := 7, bytes := [], next := 1, gapT := 1000 }
      ∧ 1 < dataFrames 7 ∧ 2 = dataFrames 7 ∧ ((3 : Byte)).toNat ≠ 1
      ∧ (Staging.mk 1 7 [] 1 0).gapT = 0 ∧ (Staging.mk 1 7 [] 1 1000).gapT ≠ 0
      ∧ ([0, 1, 0] : List Byte).length < 4 ∧ ([0, 2, 0, 9] : List Byte).getD 1 0 ≠ 1
      ∧ ([0, 2, 0, 9] : List Byte).getD 1 0 ≠ 17 ∧ u16 [0, 1, 0, 0] 2 = 0 ∧ 156 < u16 [0, 1, 0, 157] 2
      ∧ 576 < u16 [0, 17, 2, 65] 2
      ∧ 7 ≤ ([1, 0, 0, 0, 0, 0, 0] : List Byte).length ∧ ([1, 0, 0, 0, 0, 0] : List Byte).length < 7 :=
  ⟨reaches_cab, by decide +kernel⟩

/-- The cab queue holds a notice. -/
def noticed (r : TxRun) (due : Bool) : State :=
  { part with
    cab := { part.cab with queue := [(42, .alert (.hold .full 1)), (43, .alert (.hold .none 1))] }
    tx := { part.tx with run := some r, due := due } }

/-- A notice's run in which the last frame of the head of the cab queue is sent, an abandoned run and the last
frame of a Part Status, each with a Part Status due and without. -/
theorem witness_TransmitterEndsRuns :
    let r := TxRun.mk (.notice (.alert (.hold .full 1))) 42 0 1 false
    r.atLast = true ∧ r.abandoned = false ∧ (noticed r true).cab.queue = (r.number, .alert (.hold .full 1))
        :: [(43, .alert (.hold .none 1))]
      ∧ (noticed r true).tx.due = true ∧ (noticed r false).tx.due = false ∧ (noticed r true).parked = false
      ∧ { r with index := 0, abandoned := true }.abandoned = true
      ∧ (TxRun.mk (.partStatus State.resetSummary false 0) 1 0 5 false).atLast = true := by decide

/-- A notice's run being sent: its first frame of several, and a Part Status period that is over. -/
theorem witness_TransmitterSendsRunsInOrder :
    (TxRun.mk (.notice (.alert (.hold .full 1))) 42 0 0 false).abandoned = false
      ∧ (TxRun.mk (.notice (.alert (.hold .full 1))) 42 0 0 false).atLast = false
      ∧ (TxRun.mk (.notice (.alert (.hold .full 1))) 42 0 1 false).atLast = true
      ∧ { part.tx with periodT := some 0 }.periodT = some 0 ∧ part.tx.periodT ≠ some 0
      ∧ part.tx.run = none ∧ part.parked = false ∧ State.reset.tx.run ≠ none := by decide

/-- Identifiers below and above the received ones, and each of the four. -/
theorem witness_OtherIdentifierIsDisregarded :
    part.parked = false ∧ part.cfg.canBase + 3 < 0x0C4A2004 ∧ 0x0C4A1FFF < part.cfg.canBase
      ∧ (∀ k ∈ [0, 1, 2, 3],
          ({ extended := true, remote := false, value := 0x0C4A2000 + k } : CanIdent).value
            = part.cfg.canBase + k)
      ∧ ([0, 1, 0, 7] : List Byte).head? = some 0
      ∧ ([1, 1, 0, 7] : List Byte).head? ≠ some 0 := by decide

/-- A last step, a step before a step with P, a MOVE and a DWELL, and a CYCLE pass end with the flag clear
and set. -/
theorem witness_DwellExpiryCompletesTheStep :
    let x := { slotT .dwelling 1 [dwellT 1] with dwellT := some 0 }
    let y := { slotT .dwelling 1 [{ dwellT 1 with chain := true }, { moveT 1 30 with pause := true }] with
      dwellT := some 0 }
    ((withSlot x).slot 0).dwellT = some 0 ∧ (part.slot 0).dwellT ≠ some 0
      ∧ ((withSlot x).slot 0).curStep = some (dwellT 1)
      ∧ (withSlot x).arb.holder ≠ some 0 ∧ ((withSlot x).slot 0).ownerLost = false
      ∧ (dwellT 1).chain = false ∧ ((withSlot x).slot 0).block.rep ≠ .cycle
      ∧ ((withSlot y).slot 0).curStep = some { dwellT 1 with chain := true }
      ∧ ((withSlot y).slot 0).nextStep = some { moveT 1 30 with pause := true }
      ∧ (∀ nxt ∈ [moveT 1 30, dwellT 600],
          (slotT .dwelling 1 [{ dwellT 1 with chain := true }, nxt]).nextStep = some nxt)
      ∧ (∀ flag ∈ [true, false], ((cycling flag 0).slot 0).dwellT = some 0
          ∧ ((cycling flag 0).slot 0).curStep = some (dwellT 20)
          ∧ ((cycling flag 0).slot 0).block.rep = .cycle ∧ ((cycling flag 0).slot 0).flag = flag
          ∧ ((cycling flag 0).slot 0).block.steps.head? = some { moveT 1 30 with chain := true }) := by
  decide

end Sys2Proof.Tests
end

section
/-! SUPPORT. The slot a request names and the tests of R41; the power state and the freeing of a slot, part
by part; the transmitter beside a change of a slot. -/

namespace Sys2Proof.Machine

/-! ## The slot a request names (R41) -/

/-- A number names the non-FREE slot that has it. -/
theorem namedSlot_some {s : State} {n : Byte} {i : SlotId} (hn : n.toNat = i.val + 1)
    (hi : (s.slot i).state ≠ .free) : namedSlot s n = some i := by
  simp [namedSlot, itemOf_number i hn, hi]

/-- The number of a FREE slot names none. -/
theorem namedSlot_free {s : State} {n : Byte} {i : SlotId} (hn : n.toNat = i.val + 1)
    (hi : (s.slot i).state = .free) : namedSlot s n = none := by
  simp [namedSlot, itemOf_number i hn, hi]

/-- A number outside 1 to 12 names no slot. -/
theorem namedSlot_out {n : Byte} (s : State) (hn : n = 0 ∨ 12 < n.toNat) : namedSlot s n = none := by
  have h : n.toNat = 0 ∨ 12 < n.toNat := hn.imp_left fun h => by simp [h]
  simp [namedSlot, itemOf_out h]

theorem namedTag_some {s : State} {n : Byte} {i : SlotId} (h : namedSlot s n = some i) :
    namedTag s n = some (s.slot i).block.tag := by simp [namedTag, h]

theorem namedTag_none {s : State} {n : Byte} (h : namedSlot s n = none) : namedTag s n = none := by
  simp [namedTag, h]

theorem ownerOrCab_iff (s : State) (st : StationId) (i : SlotId) :
    ownerOrCab s st i = true ↔ st = 0 ∨ (s.slot i).owner = st := by simp [ownerOrCab]

/-- BAD_SLOT comes before the test of the owner. -/
theorem ownedSlot_bad {s : State} {n : Byte} (st : StationId) (h : namedSlot s n = none) :
    ownedSlot s st n = .inl .badSlot := by simp [ownedSlot, h]

theorem ownedSlot_foreign {s : State} {n : Byte} {i : SlotId} {st : StationId}
    (h : namedSlot s n = some i) (hc : st ≠ 0) (ho : (s.slot i).owner ≠ st) :
    ownedSlot s st n = .inl .notOwner := by
  have hf : ¬ ownerOrCab s st i = true := by simp [ownerOrCab_iff, hc, ho]
  simp [ownedSlot, h, hf]

theorem ownedSlot_permitted {s : State} {n : Byte} {i : SlotId} {st : StationId}
    (h : namedSlot s n = some i) (ho : st = 0 ∨ (s.slot i).owner = st) :
    ownedSlot s st n = .inr i := by
  simp [ownedSlot, h, (ownerOrCab_iff s st i).mpr ho]

/-! ## The tests do not read what the link has recorded (R150) -/

section Taken
variable (src : Sender) (s : State) (st : StationId) (n : Byte)
@[simp] theorem namedSlot_requestTaken : namedSlot (requestTaken src s) n = namedSlot s n := by
  simp [namedSlot]
@[simp] theorem namedTag_requestTaken : namedTag (requestTaken src s) n = namedTag s n := by
  simp [namedTag]
@[simp] theorem ownedSlot_requestTaken : ownedSlot (requestTaken src s) st n = ownedSlot s st n := by
  simp [ownedSlot, ownerOrCab]
@[simp] theorem releaseJudged_requestTaken :
    releaseJudged (requestTaken src s) st n = releaseJudged s st n := by simp [releaseJudged]
@[simp] theorem clearFlagJudged_requestTaken :
    clearFlagJudged (requestTaken src s) st n = clearFlagJudged s st n := by simp [clearFlagJudged]
@[simp] theorem rerunJudged_requestTaken :
    rerunJudged (requestTaken src s) st n = rerunJudged s st n := by simp [rerunJudged]
end Taken

/-! ## The power state and the freeing of a slot -/

/-- The judgement of the power state changes no other part than the supply's. -/
theorem judgePower_eq (s : State) : judgePower s = { s with sup := (judgePower s).sup } := by
  unfold judgePower
  repeat' split
  all_goals rfl

/-- A freed slot is the canonical FREE one, and beside it only the power state can change (R167). -/
theorem freeSlot_eq (i : SlotId) (s : State) :
    freeSlot i s = { modSlot i (fun _ => Slot.empty) s with sup := (freeSlot i s).sup } :=
  judgePower_eq _

section FreeSlot
variable (i : SlotId) (s : State)
@[simp] theorem freeSlot_sm :
    (freeSlot i s).sm = { s.sm with slots := upd s.sm.slots i fun _ => Slot.empty } := by
  rw [freeSlot_eq]; rfl
@[simp] theorem freeSlot_arb : (freeSlot i s).arb = s.arb := by rw [freeSlot_eq]; rfl
@[simp] theorem freeSlot_se : (freeSlot i s).se = s.se := by rw [freeSlot_eq]; rfl
@[simp] theorem freeSlot_crew : (freeSlot i s).crew = s.crew := by rw [freeSlot_eq]; rfl
@[simp] theorem freeSlot_cab : (freeSlot i s).cab = s.cab := by rw [freeSlot_eq]; rfl
theorem freeSlot_slot (j : SlotId) :
    (freeSlot i s).slot j = if i = j then Slot.empty else s.slot j := by
  simp [State.slot, upd_get]
end FreeSlot

/-! ## The transmitter beside a change of a slot -/

/-- The status summary reads only the states of the slots. -/
theorem summaryOf_modSlot (i : SlotId) {f : Slot → Slot} (hf : ∀ x, (f x).state = x.state)
    (s : State) : summaryOf (modSlot i f s) = summaryOf s := by
  have hstate (j : SlotId) : ((modSlot i f s).slot j).state = (s.slot j).state := by
    rw [slot_modSlot]
    split
    · exact hf _
    · rfl
  calc summaryOf (modSlot i f s)
      = { summaryOf s with slots := allSlots.map fun j => ((modSlot i f s).slot j).state } := rfl
    _ = summaryOf s := by simp only [hstate]; rfl

/-- A Part Status that begins carries the same content (R162). -/
theorem beginPartStatus_modSlot (i : SlotId) {f : Slot → Slot} (hf : ∀ x, (f x).state = x.state)
    (s : State) : beginPartStatus (modSlot i f s) = modSlot i f (beginPartStatus s) := by
  unfold beginPartStatus
  rw [summaryOf_modSlot i hf]
  rfl

theorem sendNext_modSlot (i : SlotId) {f : Slot → Slot} (hf : ∀ x, (f x).state = x.state)
    (s : State) : sendNext (modSlot i f s) = modSlot i f (sendNext s) := by
  have hparked : (modSlot i f s).parked = s.parked := rfl
  cases hrun : s.tx.run with
  | some r => simp [sendNext, hrun]
  | none =>
    by_cases hdue : (s.tx.due && !s.parked) = true
    · simp only [sendNext, modSlot_tx, hrun, hparked, hdue, if_true]
      exact beginPartStatus_modSlot i hf s
    · simp only [sendNext, modSlot_tx, modSlot_cab, hrun, hparked, if_neg hdue]
      split
      · rfl
      · rfl

theorem linkClosed_modSlot (src : Sender) (i : SlotId) {f : Slot → Slot}
    (hf : ∀ x, (f x).state = x.state) (s : State) :
    linkClosed src (modSlot i f s) = modSlot i f (linkClosed src s) := by
  cases src with
  | cab => exact sendNext_modSlot i hf s
  | crew c n => rfl

/-! ## A request that only its answer follows -/

@[simp] theorem answered_sm (src : Sender) (k : Byte) (c : Code) (r : Result) (s : State) :
    (answered src k c r s).sm = s.sm := by
  obtain ⟨hsm, _⟩ := linkClosed_core src (answer (senderStation src) k c r (requestTaken src s))
  exact hsm.trans (by simp)

@[simp] theorem answered_slot (src : Sender) (k : Byte) (c : Code) (r : Result) (s : State)
    (i : SlotId) : (answered src k c r s).slot i = s.slot i :=
  slot_congr (by rw [answered_sm]) i

/-- The link closes the answer to a request on a slot as any other answer. -/
theorem linkClosed_answerSlot (src : Sender) (k : Byte) (c : Code) (n : Byte) (s : State) :
    linkClosed src (answerSlot (senderStation src) k c n (requestTaken src s))
      = answered src k c (.slot n (namedTag s n)) s := by
  simp [answerSlot, answered]

/-- The answer to a request that names a non-FREE slot carries that slot's Tag (R41). -/
theorem answerSlot_requestTaken (src : Sender) (k : Byte) (c : Code) (n : Byte) (s : State)
    {i : SlotId} (h : namedSlot s n = some i) :
    answerSlot (senderStation src) k c n (requestTaken src s)
      = answer (senderStation src) k c (.slot n (some (s.slot i).block.tag))
          (requestTaken src s) := by
  simp [answerSlot, namedTag_some h]

end Sys2Proof.Machine
end

section
/-! PROOFS. Release, Clear Flag and Rerun (R43 to R45): each request refused and taken, and their two
statements. -/

namespace Sys2Proof.Machine

section Requests
variable {src : Sender} {n : Byte} {s : State}

/-! ## Release (R43) -/

theorem exec_release_refused (h : Reaches src s) {code : Code}
    (hj : releaseJudged s (senderStation src) n = .inl code) :
    exec (.release src n) s = .next (answered src 3 code (.slot n (namedTag s n)) s) := by
  rw [exec_release, viaLink_reaches h]
  simp only [takeRelease, releaseJudged_requestTaken, hj, linkClosed_answerSlot]
  rfl

theorem exec_release_taken (h : Reaches src s) {i : SlotId} (hi : namedSlot s n = some i)
    (hj : releaseJudged s (senderStation src) n = .inr i) :
    exec (.release src n) s = .next (linkClosed src (settle (freeSlot i
      (answer (senderStation src) 3 .ok (.slot n (some (s.slot i).block.tag))
        (requestTaken src s))))) := by
  rw [exec_release, viaLink_reaches h]
  simp only [takeRelease, releaseJudged_requestTaken, hj, answerSlot_requestTaken _ _ _ _ _ hi]
  rfl

/-! ## Clear Flag (R44) -/

theorem exec_clearFlag_refused (h : Reaches src s) {code : Code}
    (hj : clearFlagJudged s (senderStation src) n = .inl code) :
    exec (.clearFlag src n) s = .next (answered src 4 code (.slot n (namedTag s n)) s) := by
  rw [exec_clearFlag, viaLink_reaches h]
  simp only [takeClearFlag, clearFlagJudged_requestTaken, hj, linkClosed_answerSlot]
  rfl

/-- No Part Status and no notice tells the flag, so that it can be cleared behind the link's answer. -/
theorem exec_clearFlag_taken (h : Reaches src s) {i : SlotId} (hi : namedSlot s n = some i)
    (hj : clearFlagJudged s (senderStation src) n = .inr i) :
    exec (.clearFlag src n) s = .next (modSlot i (fun x => { x with flag := false })
      (answered src 4 .ok (.slot n (some (s.slot i).block.tag)) s)) := by
  rw [exec_clearFlag, viaLink_reaches h]
  simp only [takeClearFlag, clearFlagJudged_requestTaken, hj]
  rw [linkClosed_modSlot src i (f := fun x => { x with flag := false }) fun _ => rfl,
    linkClosed_answerSlot, namedTag_some hi]
  rfl

/-! ## Rerun (R45) -/

theorem exec_rerun_refused (h : Reaches src s) {code : Code}
    (hj : rerunJudged s (senderStation src) n = .inl code) :
    exec (.rerun src n) s = .next (answered src 5 code (.slot n (namedTag s n)) s) := by
  rw [exec_rerun, viaLink_reaches h]
  simp only [takeRerun, rerunJudged_requestTaken, hj, linkClosed_answerSlot]
  rfl

theorem exec_rerun_taken (h : Reaches src s) {i : SlotId} (hi : namedSlot s n = some i)
    (hj : rerunJudged s (senderStation src) n = .inr i) :
    exec (.rerun src n) s = .next (linkClosed src (settle (makeCurrent i false (modSlot i rerunSlot
      (answer (senderStation src) 5 .ok (.slot n (some (s.slot i).block.tag))
        (requestTaken src s)))))) := by
  rw [exec_rerun, viaLink_reaches h]
  simp only [takeRerun, rerunJudged_requestTaken, hj, answerSlot_requestTaken _ _ _ _ _ hi]
  rfl

/-- With the loop READY and a record in force, the slot and its owner are tested next. -/
theorem rerunJudged_of_ownedSlot_inl {st : StationId} {code : Code} (hl : s.loop.state = .ready)
    (hf : s.store.fault = false) (ho : ownedSlot s st n = .inl code) :
    rerunJudged s st n = .inl code := by simp [rerunJudged, hl, hf, ho]

end Requests

/-! ## The statements -/

/-- Settles O20: the three tests of each request select its answer; a Release that passes frees the slot
before the reactions, which leave a FREE slot alone. -/
theorem releaseFreesAndClearFlagClears : Obligations.ReleaseFreesAndClearFlagClears := by
  intro src i n s hr hn
  refine ⟨fun hfree => ?_, fun hi ho => ?_, fun hi hcab ho => ?_⟩
  · have hnone := namedSlot_free hn hfree
    have hbad := ownedSlot_bad (senderStation src) hnone
    rw [← namedTag_none hnone]
    exact ⟨exec_release_refused hr (by simp [releaseJudged, hbad]),
      exec_clearFlag_refused hr (by simp [clearFlagJudged, hbad])⟩
  · have hname := namedSlot_some hn hi
    have hown := ownedSlot_permitted hname ho
    rw [← namedTag_some hname]
    refine ⟨fun hc => ?_, fun hc => ?_, fun hc => ?_, fun hc => ?_⟩
    · have hfreed (u : State) : (freeSlot i u).slot i = Slot.empty := by simp [freeSlot_slot]
      have hsettled := settled_linkClosed src (freeSlot i
        (answer (senderStation src) 3 .ok (.slot n (namedTag s n)) (requestTaken src s)))
      obtain ⟨hkept, _⟩ := hsettled.inert i (by rw [hfreed]; rfl)
      refine ⟨_, _, ?_, hsettled, hfreed _, hkept.trans (hfreed _), fun j hj => ?_, by simp,
        (answer_keeps _ _ _ _ _).trans ((keeps_slotReaction i).freeSlot _), by simp, by simp,
        by simp, by simp⟩
      · rw [namedTag_some hname]
        exact exec_release_taken hr hname (by simp [releaseJudged, hown, hc])
      · simp [freeSlot_slot, Ne.symm hj]
    · exact exec_release_refused hr (by simp [releaseJudged, hown, hc])
    · refine ⟨_, exec_clearFlag_taken hr hname (by simp [clearFlagJudged, hown, hc]), by simp,
        fun j hj => ?_, ?_, by simp⟩
      · rw [slot_modSlot_ne _ _ (Ne.symm hj), answered_slot]
      · rw [namedTag_some hname]; rfl
    · exact exec_clearFlag_refused hr (by simp [clearFlagJudged, hown, hc])
  · have hname := namedSlot_some hn hi
    have hown := ownedSlot_foreign hname hcab ho
    rw [← namedTag_some hname]
    exact ⟨exec_release_refused hr (by simp [releaseJudged, hown]),
      exec_clearFlag_refused hr (by simp [clearFlagJudged, hown])⟩

/-- Settles O21: `rerunJudged` makes the tests in the order of R45, and the run begins anew from the record
`rerunSlot` gives. -/
theorem rerunBeginsTheRunAnew : Obligations.RerunBeginsTheRunAnew := by
  intro src n s hr
  refine ⟨fun hl => ?_, fun hl hf => ?_, fun hl hf hbad => ?_, fun i hn hi hl hf => ?_⟩
  · exact exec_rerun_refused hr (by simp [rerunJudged, hl])
  · exact exec_rerun_refused hr (by simp [rerunJudged, hl, hf])
  · have hnone : namedSlot s n = none := by
      rcases hbad with hzero | hover | ⟨i, hn, hfree⟩
      · exact namedSlot_out s (.inl hzero)
      · exact namedSlot_out s (.inr hover)
      · exact namedSlot_free hn hfree
    rw [← namedTag_none hnone]
    exact exec_rerun_refused hr (rerunJudged_of_ownedSlot_inl hl hf (ownedSlot_bad _ hnone))
  · have hname := namedSlot_some hn hi
    rw [← namedTag_some hname]
    refine ⟨fun hcab ho => ?_, fun ho => ?_⟩
    · exact exec_rerun_refused hr
        (rerunJudged_of_ownedSlot_inl hl hf (ownedSlot_foreign hname hcab ho))
    · have hown := ownedSlot_permitted hname ho
      refine ⟨fun hc => ?_, fun hc hflag => ?_, fun hc hflag => ?_⟩
      · exact exec_rerun_refused hr (by simp [rerunJudged, hl, hf, hown, hc])
      · exact exec_rerun_refused hr (by simp [rerunJudged, hl, hf, hown, hc, hflag])
      · rw [namedTag_some hname]
        refine ⟨_, _, exec_rerun_taken hr hname (by simp [rerunJudged, hl, hf, hown, hc, hflag]),
          settled_linkClosed src _, rfl, ?_, fun j hj => ?_, by simp⟩
        · rw [slot_modSlot_same, answer_slot, requestTaken_slot]; rfl
        · rw [slot_modSlot_ne _ _ (Ne.symm hj), answer_slot, requestTaken_slot]

end Sys2Proof.Machine
end

section
/-! PROOFS. Clear Faults (R139): the flags of the cleared map, what the clearing leaves of the Fault Summary
and the pump, and its statement. -/

namespace Sys2Proof.Machine

/-! ## Maps of flags -/

theorem Flag.position_lt (f : Flag) : f.position < 32 := by
  cases f <;> simp only [Flag.position] <;> omega

theorem mem_allFlags (f : Flag) : f ∈ allFlags := by
  have haxes : ∀ a : AxisId, a ∈ allAxes := by decide
  have hbeacons : ∀ b : BeaconId, b ∈ allBeacons := by decide
  have hstations : ∀ st : StationId, st ∈ allStations := by decide
  cases f with
  | sensor a => simp [allFlags, haxes a]
  | lamp b => simp [allFlags, hbeacons b]
  | noticesLost st => simp [allFlags, hstations st]
  | pump | loop | config | chassisStale => simp [allFlags]

/-- A flag after the flags of another map were taken out. -/
theorem flagIn_and_not (m n : BitVec 32) (f : Flag) :
    flagIn (m &&& ~~~n) f = (flagIn m f && !flagIn n f) := by
  simp [flagIn, f.position_lt]

/-- A flag after each flag of a list that passes a test was raised. -/
theorem flagIn_foldl_raiseFlag (p : Flag → Bool) (f : Flag) (l : List Flag) (m : BitVec 32) :
    flagIn (l.foldl (fun acc g => if p g then raiseFlag g acc else acc) m) f
      = (flagIn m f || (decide (f ∈ l) && p f)) := by
  induction l generalizing m with
  | nil => simp
  | cons g l ih =>
    rw [List.foldl_cons, ih]
    by_cases hfg : f = g
    · subst hfg
      cases hp : p f <;> simp [flagIn_raiseFlag]
    · cases hp : p g <;> simp [flagIn_raiseFlag, hfg]

/-! ## The clearing (R139, R140) -/

/-- The flags that are cleared are those named and set whose clearing condition holds. -/
theorem flagIn_clearedFlags (s : State) (map : BitVec 32) (f : Flag) :
    flagIn (clearedFlags s map) f = (flagIn map f && flagIn s.faults f && clearable s f) := by
  have hzero : flagIn 0#32 f = false := by simp [flagIn]
  rw [clearedFlags, flagIn_foldl_raiseFlag fun g =>
    flagIn map g && flagIn s.faults g && clearable s g]
  simp [hzero, mem_allFlags]

theorem flagIn_clearNamed (map : BitVec 32) (s : State) (f : Flag) :
    flagIn (clearNamed map s).faults f
      = (flagIn s.faults f && !(flagIn map f && clearable s f)) := by
  calc flagIn (clearNamed map s).faults f
      = (flagIn s.faults f && !flagIn (clearedFlags s map) f) := flagIn_and_not _ _ f
    _ = (flagIn s.faults f && !(flagIn map f && clearable s f)) := by
        rw [flagIn_clearedFlags]
        cases flagIn s.faults f <;> simp

/-- PUMP can always be cleared (R140), so that the flag's being named and set decides. -/
theorem clearNamed_pump (map : BitVec 32) (s : State) :
    (clearNamed map s).arb.pump
      = if flagIn map .pump = true ∧ flagIn s.faults .pump = true ∧ s.arb.pump = .fault
        then .off else s.arb.pump := by
  simp [clearNamed, flagIn_clearedFlags, clearable, and_assoc]

theorem clearNamed_pump_fault_iff (map : BitVec 32) (s : State) :
    (clearNamed map s).arb.pump = .fault
      ↔ s.arb.pump = .fault ∧ (flagIn map .pump && flagIn s.faults .pump) = false := by
  rw [clearNamed_pump]
  split
  case isTrue h =>
    obtain ⟨hmap, hset, -⟩ := h
    simp [hmap, hset]
  case isFalse h =>
    constructor
    · intro hfault
      exact ⟨hfault, by simpa [hfault] using h⟩
    · exact And.left

theorem clearNamed_keeps (map : BitVec 32) (s : State) : Keeps s (clearNamed map s) := by
  constructor <;> intros <;> rfl

@[simp] theorem clearNamed_slot (map : BitVec 32) (s : State) (i : SlotId) :
    (clearNamed map s).slot i = s.slot i := rfl

/-- The clearing conditions do not read what the link has recorded (R150). -/
@[simp] theorem clearable_requestTaken (src : Sender) (s : State) (f : Flag) :
    clearable (requestTaken src s) f = clearable s f := by cases src <;> rfl

/-! ## The request (R139) -/

/-- The state after the clearing of a request that reaches its owner, before the answer. -/
def faultsCleared (src : Sender) (map : BitVec 32) (s : State) : State :=
  clearNamed map (requestTaken src s)

/-- The state after the answer OK, before the reactions: the answer carries the named flags still set and
the Fault Summary. -/
def clearFaultsAnswered (src : Sender) (map : BitVec 32) (s : State) : State :=
  answer (senderStation src) 14 .ok
    (.faults (map &&& (faultsCleared src map s).faults) (faultsCleared src map s).faults)
    (faultsCleared src map s)

section Request
variable {src : Sender} {map : BitVec 32} {s : State}

theorem exec_clearFaults_refused (h : Reaches src s) (hmap : map >>> 26 ≠ 0#32) :
    exec (.clearFaults src map) s = .next (answered src 14 .badFlag .none s) := by
  have hbad : namesNoFlag map = true := by simpa [namesNoFlag] using hmap
  rw [exec_clearFaults, viaLink_reaches h, takeClearFaults, if_pos hbad]
  rfl

theorem exec_clearFaults_taken (h : Reaches src s) (hmap : map >>> 26 = 0#32) :
    exec (.clearFaults src map) s
      = .next (linkClosed src (settle (clearFaultsAnswered src map s))) := by
  have hgood : ¬ namesNoFlag map = true := by simp [namesNoFlag, hmap]
  rw [exec_clearFaults, viaLink_reaches h, takeClearFaults, if_neg hgood]
  rfl

end Request

section Cleared
variable (src : Sender) (map : BitVec 32) (s : State)

/-- The clearing changes only the Fault Summary and the pump state. -/
theorem faultsCleared_eq :
    faultsCleared src map s = { requestTaken src s with
      faults := (faultsCleared src map s).faults
      arb := { s.arb with pump := (faultsCleared src map s).arb.pump } } := by
  cases src <;> rfl

theorem flagIn_faultsCleared (f : Flag) :
    flagIn (faultsCleared src map s).faults f
      = (flagIn s.faults f && !(flagIn map f && clearable s f)) := by
  simp [faultsCleared, flagIn_clearNamed]

theorem faultsCleared_pump :
    (faultsCleared src map s).arb.pump
      = if flagIn map .pump = true ∧ flagIn s.faults .pump = true ∧ s.arb.pump = .fault
        then .off else s.arb.pump := by
  simp [faultsCleared, clearNamed_pump]

theorem faultsCleared_pump_fault_iff :
    (faultsCleared src map s).arb.pump = .fault
      ↔ s.arb.pump = .fault ∧ (flagIn map .pump && flagIn s.faults .pump) = false := by
  simpa [faultsCleared] using clearNamed_pump_fault_iff map (requestTaken src s)

/-- The answer changes no flag but NOTICES_LOST, and not the pump's FAULT. -/
theorem clearFaultsAnswered_mild : Mild (faultsCleared src map s) (clearFaultsAnswered src map s) :=
  Mild.place _ _ _

theorem clearFaultsAnswered_keeps : Keeps (requestTaken src s) (clearFaultsAnswered src map s) :=
  (clearNamed_keeps map _).trans (answer_keeps _ _ _ _ _)

theorem clearFaultsAnswered_slot (i : SlotId) :
    (clearFaultsAnswered src map s).slot i = s.slot i := by
  simp [clearFaultsAnswered, faultsCleared]

end Cleared

/-- Settles O46: the flags and the pump are those `clearNamed` leaves; the answer and the reactions can only
set a flag NOTICES_LOST, and take the pump neither into FAULT nor out of it. -/
theorem clearFaultsClearsTheNamedFlags : Obligations.ClearFaultsClearsTheNamedFlags := by
  intro src map s hr
  refine ⟨exec_clearFaults_refused hr, fun hmap => ?_⟩
  have hanswer := clearFaultsAnswered_mild src map s
  have hsettled := settled_linkClosed src (clearFaultsAnswered src map s)
  refine ⟨_, _, exec_clearFaults_taken hr hmap,
    ⟨_, _, flagIn_faultsCleared src map s, faultsCleared_pump src map s, ?_⟩, hsettled,
    fun f hf => ?_, ?_, (clearFaultsAnswered_keeps src map s).trans hsettled.toKeeps, fun i hi => ?_⟩
  · exact congrArg (answer _ _ _ _) (faultsCleared_eq src map s)
  · calc flagIn (linkClosed src (settle (clearFaultsAnswered src map s))).faults f
        = flagIn (clearFaultsAnswered src map s).faults f := hsettled.flags f hf
      _ = flagIn (faultsCleared src map s).faults f := hanswer.flags f hf
      _ = (flagIn s.faults f && !(flagIn map f && clearable s f)) :=
          flagIn_faultsCleared src map s f
  · exact (hsettled.pumpFault.trans hanswer.pumpFault).trans
      (faultsCleared_pump_fault_iff src map s)
  · have hslot := clearFaultsAnswered_slot src map s i
    obtain ⟨hkept, _⟩ := hsettled.inert i (by rw [hslot]; exact hi)
    exact hkept.trans hslot

end Sys2Proof.Machine
end

section
/-! PROOFS. The operations of the Sequence Manager, part by part: which notices are the same, and exactly
what the end of a sequence does (R37 to R39), with the statements on both and on the queue (R24). -/

namespace Sys2Proof.Machine

/-! ## The same notices -/

theorem SameNotices.refl (s : State) : SameNotices s s := ⟨rfl, rfl⟩

theorem SameNotices.trans {s t u : State} (h : SameNotices s t) (g : SameNotices t u) :
    SameNotices s u := ⟨g.1.trans h.1, g.2.trans h.2⟩

theorem SameNotices.symm {s t : State} (h : SameNotices s t) : SameNotices t s :=
  ⟨h.1.symm, h.2.symm⟩

/-- A notice placed for a crew station reads and writes the crew stations alone, one for the cab the cab
alone. -/
theorem SameNotices.place {s t : State} (h : SameNotices s t) (st : StationId) (n : Notice) :
    SameNotices (place st n s) (place st n t) := by
  obtain ⟨hcrew, hcab⟩ := h
  unfold Machine.place placeCab placeCrew
  split
  · simp only [State.cabOnline, hcab]
    repeat' split
    all_goals exact ⟨hcrew, by simp_all [report]⟩
  · simp only [hcrew]
    repeat' split
    all_goals exact ⟨by simp_all [report], hcab⟩

/-! ## Operations that place no notice -/

section Quiet
variable (i : SlotId) (s : State)

@[simp] theorem leaveQueue_slot (j : SlotId) : (leaveQueue i s).slot j = s.slot j := rfl

theorem releaseGrant_eq :
    releaseGrant i s = { s with
      sm := (releaseGrant i s).sm
      arb := { s.arb with holder := if s.arb.holder = some i then none else s.arb.holder } } := by
  unfold releaseGrant
  split
  · rfl
  · rfl

@[simp] theorem releaseGrant_arb : (releaseGrant i s).arb
    = { s.arb with holder := if s.arb.holder = some i then none else s.arb.holder } := by
  rw [releaseGrant_eq]

@[simp] theorem releaseGrant_se : (releaseGrant i s).se = s.se := by rw [releaseGrant_eq]

@[simp] theorem releaseGrant_queue : (releaseGrant i s).sm.queue = s.sm.queue := by
  unfold releaseGrant; split <;> rfl

theorem releaseGrant_notices : SameNotices s (releaseGrant i s) := by
  rw [releaseGrant_eq]; exact ⟨rfl, rfl⟩

/-- The record of the slot takes the axis and its position where the slot held the grant (R38, R78). -/
theorem releaseGrant_slot_same : (releaseGrant i s).slot i
    = if s.arb.holder = some i then withLastMove s (s.slot i) else s.slot i := by
  unfold releaseGrant
  split
  · rw [slot_modSlot_same]; rfl
  · rfl

theorem releaseGrant_slot_ne {j : SlotId} (h : j ≠ i) : (releaseGrant i s).slot j = s.slot j := by
  unfold releaseGrant
  split
  · rw [slot_modSlot_ne _ _ (Ne.symm h)]; rfl
  · rfl

theorem releaseGrant_holder_ne : (releaseGrant i s).arb.holder ≠ some i := by
  rw [releaseGrant_arb]
  by_cases h : s.arb.holder = some i <;> simp [h]

theorem judgePower_slot (j : SlotId) : (judgePower s).slot j = s.slot j := by
  rw [judgePower_eq]; rfl

theorem dispose_slot_same : (dispose i s).slot i
    = if (s.slot i).block.rep = .once then Slot.empty
      else { s.slot i with state := .completed, flag := true } := by
  unfold dispose
  split
  · simp [freeSlot_slot, *]
  · simp [*]
  · simp [*]

theorem dispose_slot_ne {j : SlotId} (h : j ≠ i) : (dispose i s).slot j = s.slot j := by
  unfold dispose
  split
  · simp [freeSlot_slot, Ne.symm h]
  · exact slot_modSlot_ne _ _ (Ne.symm h)
  · exact slot_modSlot_ne _ _ (Ne.symm h)

@[simp] theorem dispose_arb : (dispose i s).arb = s.arb := by unfold dispose; split <;> simp

@[simp] theorem dispose_se : (dispose i s).se = s.se := by unfold dispose; split <;> simp

@[simp] theorem dispose_queue : (dispose i s).sm.queue = s.sm.queue := by
  unfold dispose; split <;> simp

theorem dispose_notices : SameNotices s (dispose i s) := by
  unfold dispose
  split
  · exact ⟨freeSlot_crew i s, freeSlot_cab i s⟩
  · exact ⟨rfl, rfl⟩
  · exact ⟨rfl, rfl⟩

end Quiet

/-! ## The end of a sequence (R37 to R39) -/

/-- The record of a slot as the end of its sequence finds it: with the axis of its tenure where it holds
the grant (R38, R78). -/
def endingSlot (i : SlotId) (s : State) : Slot :=
  if s.arb.holder = some i then withLastMove s (s.slot i) else s.slot i

/-- The COMPLETION notice of the slot (R38, R47). -/
def completionNotice (i : SlotId) (cause : EndCause) (wait : Option WaitReason) (x : Slot) : Notice :=
  .completion { completionOf i cause x with run := { x.run with wait := wait } }

/-- The state as the end of a sequence leaves the queue, the timer and the grant, before the notice. -/
def withdrawn (i : SlotId) (cause : EndCause) (wait : Option WaitReason) (s : State) : State :=
  modSlot i (fun x => { x with run := { x.run with wait := wait } }) (releaseGrant i
    (modSlot i (fun x => { x with dwellT := none }) (leaveQueue i
      (modSlot i (fun x => { x with lastEnd := some cause, endStep := some x.step }) s))))

section SeqEnd
variable (i : SlotId) (cause : EndCause) (wait : Option WaitReason) (s : State)

theorem withdrawn_slot_same : (withdrawn i cause wait s).slot i
    = { endingSlot i s with
        lastEnd := some cause, endStep := some (s.slot i).step, dwellT := none
        run := { (endingSlot i s).run with wait := wait } } := by
  unfold withdrawn endingSlot
  rw [slot_modSlot_same, releaseGrant_slot_same]
  simp only [slot_modSlot_same, leaveQueue_slot]
  by_cases hh : s.arb.holder = some i
  · simp only [modSlot_arb, leaveQueue, setQueue_arb, hh, if_true]; rfl
  · simp only [modSlot_arb, leaveQueue, setQueue_arb, hh, if_false]

theorem withdrawn_slot_ne {j : SlotId} (h : j ≠ i) :
    (withdrawn i cause wait s).slot j = s.slot j := by
  unfold withdrawn
  rw [slot_modSlot_ne _ _ (Ne.symm h), releaseGrant_slot_ne _ _ h, slot_modSlot_ne _ _ (Ne.symm h),
    leaveQueue_slot, slot_modSlot_ne _ _ (Ne.symm h)]

theorem withdrawn_arb : (withdrawn i cause wait s).arb
    = { s.arb with holder := if s.arb.holder = some i then none else s.arb.holder } := by
  show (releaseGrant i _).arb = _
  rw [releaseGrant_arb]
  rfl

theorem withdrawn_se : (withdrawn i cause wait s).se = s.se := by simp [withdrawn, leaveQueue]

theorem withdrawn_queue : (withdrawn i cause wait s).sm.queue = s.sm.queue.filter (· != i) := by
  show (releaseGrant i _).sm.queue = _
  rw [releaseGrant_queue]
  rfl

theorem withdrawn_notices : SameNotices s (withdrawn i cause wait s) :=
  (releaseGrant_notices i _)

theorem endingSlot_owner : (endingSlot i s).owner = (s.slot i).owner := by
  unfold endingSlot; split <;> rfl

theorem endingSlot_block : (endingSlot i s).block = (s.slot i).block := by
  unfold endingSlot; split <;> rfl

theorem endingSlot_step : (endingSlot i s).step = (s.slot i).step := by
  unfold endingSlot; split <;> rfl

/-- The notice is composed from the record the slot had, with the reason (R38). -/
theorem seqEnd_eq_dispose : seqEnd i cause wait s
    = dispose i (modSlot i
        (fun x => { x with ownerLost := false, interrupted := false, pauseCause := none })
        (place (s.slot i).owner (completionNotice i cause wait (endingSlot i s))
          (withdrawn i cause wait s))) := by
  have hw := withdrawn_slot_same i cause wait s
  have hn : completionOf i cause ((withdrawn i cause wait s).slot i)
      = { completionOf i cause (endingSlot i s) with
          run := { (endingSlot i s).run with wait := wait } } := by rw [hw]; rfl
  have ho : ((withdrawn i cause wait s).slot i).owner = (s.slot i).owner := by
    rw [hw]; exact endingSlot_owner i s
  unfold completionNotice
  rw [← hn, ← ho]
  rfl

theorem seqEnd_slot_same : (seqEnd i cause wait s).slot i = endedRecord cause wait (endingSlot i s) := by
  rw [seqEnd_eq_dispose, dispose_slot_same, slot_modSlot_same, place_slot, withdrawn_slot_same]
  simp [endedRecord, endingSlot_step]

theorem seqEnd_slot_ne {j : SlotId} (h : j ≠ i) : (seqEnd i cause wait s).slot j = s.slot j := by
  rw [seqEnd_eq_dispose, dispose_slot_ne _ _ h, slot_modSlot_ne _ _ (Ne.symm h), place_slot,
    withdrawn_slot_ne _ _ _ _ h]

@[simp] theorem seqEnd_queue :
    (seqEnd i cause wait s).sm.queue = s.sm.queue.filter (· != i) := by
  rw [seqEnd_eq_dispose, dispose_queue, ← withdrawn_queue i cause wait]
  simp

@[simp] theorem seqEnd_arb : (seqEnd i cause wait s).arb
    = { s.arb with holder := if s.arb.holder = some i then none else s.arb.holder } := by
  rw [seqEnd_eq_dispose, dispose_arb, ← withdrawn_arb i cause wait]
  simp

@[simp] theorem seqEnd_se : (seqEnd i cause wait s).se = s.se := by
  rw [seqEnd_eq_dispose, dispose_se, ← withdrawn_se i cause wait s]
  simp

theorem seqEnd_keeps : Keeps s (seqEnd i cause wait s) := (keeps_slotReaction i).seqEnd cause wait s

theorem seqEnd_notices :
    SameNotices (place (s.slot i).owner (completionNotice i cause wait (endingSlot i s)) s)
      (seqEnd i cause wait s) := by
  rw [seqEnd_eq_dispose]
  exact ((withdrawn_notices i cause wait s).place _ _).trans (dispose_notices i _)

/-- After its end a slot is FREE or COMPLETED (R39). -/
theorem seqEnd_state : ((seqEnd i cause wait s).slot i).state = .free
    ∨ ((seqEnd i cause wait s).slot i).state = .completed := by
  rw [seqEnd_slot_same, endedRecord]
  split
  · exact .inl rfl
  · exact .inr rfl

end SeqEnd

/-- Settles O15: each part of the ended slot's state is one lemma on `seqEnd`. -/
theorem sequenceEndDisposesOfTheSlot : Obligations.SequenceEndDisposesOfTheSlot := by
  intro i cause wait s x hx
  have hx : x = endingSlot i s := hx
  have howner : x.owner = (s.slot i).owner := by rw [hx, endingSlot_owner]
  obtain ⟨hcrew, hcab⟩ := seqEnd_notices i cause wait s
  rw [← hx, ← howner] at hcrew hcab
  refine ⟨by rw [hx, seqEnd_slot_same], fun j hj => seqEnd_slot_ne i cause wait s hj, by simp,
    by simp, hcrew, hcab, seqEnd_keeps i cause wait s⟩

/-! ## The front of a Class (R24) -/

/-- Settles O16: by induction on the queue, along the recursion of `insertFront`. -/
theorem frontOfClassInsertion : Obligations.FrontOfClassInsertion := by
  intro s i q
  induction q with
  | nil => exact ⟨[], [], rfl, rfl, by simp, by simp⟩
  | cons j rest ih =>
    by_cases hcls : (s.slot j).block.cls = (s.slot i).block.cls
    · refine ⟨[], j :: rest, rfl, by simp [insertFront, hcls], by simp, ?_⟩
      intro k hk
      obtain rfl : j = k := by simpa using hk
      exact hcls
    · obtain ⟨front, back, hq, hins, hfront, hback⟩ := ih
      refine ⟨j :: front, back, by simp [hq], by simp [insertFront, hcls, hins], ?_, hback⟩
      intro k hk
      rcases List.mem_cons.mp hk with rfl | hk
      · exact hcls
      · exact hfront k hk

end Sys2Proof.Machine
end

section
/-! PROOFS. Once for every relation between states: what holds of each reaction a command makes holds of the
whole command. `CommandReaction R` lists what the 59 meanings are made of, each with what its caller knows;
`CommandReaction.exec` goes through the commands once, and the statements that every command keeps something
(the clock and the queue, the record, the bounds of the notices, the invariants) are uses of it. -/

namespace Sys2Proof.Machine

/-- The fields that the reactions of the links, the lamps, the supply and the timers leave alone. -/
structure Aside (s t : State) : Prop where
  pending : t.pending = s.pending := by rfl
  clock : t.clock = s.clock := by rfl
  sm : t.sm = s.sm := by rfl
  holder : t.arb.holder = s.arb.holder := by rfl
  se : t.se = s.se := by rfl
  loop : t.loop = s.loop := by rfl
  crew : t.crew = s.crew := by rfl
  cab : t.cab = s.cab := by rfl
  cfg : t.cfg = s.cfg := by rfl
  store : t.store = s.store := by rfl

/-- The relation holds of each reaction that a command is made of. -/
structure CommandReaction (R : State → State → Prop) : Prop where
  refl : ∀ s, R s s
  trans : ∀ {s t u}, R s t → R t u → R s u
  aside : ∀ {s t}, Aside s t → R s t
  place : ∀ st n s, R s (place st n s)
  crew : ∀ c f s, (∀ x, (f x).queue.length ≤ x.queue.length) → R s (modCrew c f s)
  cab : ∀ x s, x.queue.length ≤ s.cab.queue.length → R s { s with cab := x }
  program : ∀ p s, R s { s with store := { s.store with programming := p } }
  settle : ∀ s, R s (settle s)
  cancel : ∀ i s, R s (cancelEffect i s)
  release : ∀ i s, (s.slot i).state = .completed → R s (freeSlot i s)
  clearFlag : ∀ i s, R s (modSlot i (fun x => { x with flag := false }) s)
  rerun : ∀ i s, (s.slot i).state = .completed → s.loop.state = .ready →
    R s (makeCurrent i false (modSlot i rerunSlot s))
  resume : ∀ i s, (s.slot i).state = .paused → R s (resumeStep i s)
  submit : ∀ st bytes i s, submitOutcome s st bytes = .inr i → R s (acceptSubmit st i bytes s)
  dwell : ∀ i s, (s.slot i).dwellT.isSome = true →
    R s (stepDone i (modSlot i (fun x => { x with dwellT := none }) s))
  flush : ∀ z s, R s (flush z s)
  stop : ∀ o s, R s (controlledStop o s)
  ownerLoss : ∀ st s, R s (ownerLoss st s)
  pumpReady : ∀ s, R s (pumpReady s)
  strokeEnds : ∀ k e s, s.se.stroke = some k → R s (strokeEnds k.slot e s)
  holderEnds : ∀ i e s, s.arb.holder = some i → R s (Machine.strokeEnds i e s)
  stopEnds : ∀ k s, s.se.stroke = some k → R s (stopEnds k s)
  stroke : ∀ k k' s, s.se.stroke = some k → k'.slot = k.slot → k'.axis = k.axis →
    R s (setStroke (some k') s)
  drive : ∀ k f s, s.se.stroke = some k → R s (modDrive k.axis f s)
  arrive : ∀ n p k s, s.se.stroke = some k → R s (arrive n p k s)
  channel : ∀ ch closed s, R s (channelChanged ch closed s)
  discrepancy : ∀ s, s.loop.discT.isSome = true → R s (discrepancyExpired s)
  loopReady : ∀ st s, s.loop.state = .closedWait → R s (setLoop .ready st s)

/-- The commands that can carry a start-up: a power-on, and a Restart of the cab, as a request or as the
bytes of a frame (R170, R171). -/
def mayStartUp (c : Instr) : Prop :=
  (∃ l, c = .powerOn l) ∨ (∃ b, c = .restart .cab b) ∨ (∃ body, c = .undecodableRequest .cab body)
    ∨ ∃ ident d, c = .otherIdentifierFrame ident d

theorem due_isSome {t : Timer} (h : due t = true) : t.isSome = true := by
  have ht : t = some 0 := by simpa [due] using h
  rw [ht]; rfl

/-- A stroke timer that is due is that of the running stroke. -/
theorem stroke_of_strokeWith {f : Stroke → Timer} {s : State} {k : Stroke}
    (h : strokeWith f s = some k) : s.se.stroke = some k := by
  obtain ⟨hk, -⟩ := Option.filter_eq_some_iff.mp h
  exact hk

theorem afterCarried_length (m : Option (Byte × Notice)) (q : List (Byte × Notice)) :
    (afterCarried m q).length ≤ q.length := by
  unfold afterCarried
  repeat' split
  all_goals simp

theorem afterGood_queue (x : Crew) : (afterGood x).queue = x.queue := by
  unfold afterGood
  repeat' split
  all_goals rfl

theorem afterMiss_queue (x : Crew) : (afterMiss x).queue = x.queue := by
  unfold afterMiss
  repeat' split
  all_goals rfl

theorem afterSent_length (n : Byte) (q : List (Byte × Notice)) : (afterSent n q).length ≤ q.length := by
  unfold afterSent
  repeat' split
  all_goals simp

/-- The outputs as the entry into PARKED leaves them: watchdogs and the Part Status period stopped, beacons
and sounder dark (R168). -/
def darkened (s : State) : State :=
  let s := mapBeacons (fun _ x => { x with fullOn := false })
    { s with sensors := s.sensors.map fun (x : Sensor) => { x with watchdog := none } }
  relight { s with tx := { s.tx with periodT := none } }

theorem aside_darkened (s : State) : Aside s (darkened s) := by constructor <;> rfl

theorem enterParked_eq (s : State) : enterParked s = darkened (allCrew.foldl
    (fun s c => setEnable c false s) { s with sup := { s.sup with power := .parked, standbyT := none } }) := by
  simp only [enterParked, darkened]

namespace CommandReaction

variable {R : State → State → Prop} (h : CommandReaction R)
include h

/-! ## The shared parts -/

theorem send (s : State) : R s (sendNext s) := by
  unfold Machine.sendNext
  split
  · exact h.refl s
  · split
    · exact h.aside {}
    · split
      · exact h.refl s
      · exact h.aside {}

theorem answer (d : StationId) (k : Byte) (c : Code) (r : Result) (s : State) :
    R s (answer d k c r s) := h.place d _ s

theorem foldl {α : Type} {f : State → α → State} (hf : ∀ s x, R s (f s x)) (l : List α) (s : State) :
    R s (l.foldl f s) := by
  induction l generalizing s with
  | nil => exact h.refl s
  | cons x l ih => exact h.trans (hf s x) (ih (f s x))

theorem placeAll (n : Notice) (s : State) : R s (placeAll n s) :=
  h.foldl (fun s st => h.place st n s) _ s

theorem report (f : Flag) (s : State) : R s (report f s) := h.aside {}

theorem judgePower (s : State) : R s (judgePower s) := by
  rw [judgePower_eq]; exact h.aside {}

theorem derivePositions (s : State) : R s (derivePositions s) := by
  unfold Machine.derivePositions
  dsimp only
  split
  · exact h.refl s
  · exact h.trans (h.aside {}) (h.judgePower _)

theorem judgeIgnition (b : Bool) (s : State) : R s (judgeIgnition b s) := by
  unfold Machine.judgeIgnition
  split
  · exact h.refl s
  · exact h.judgePower s

theorem ensurePolling (s : State) : R s (ensurePolling s) := by
  unfold Machine.ensurePolling nextPoll
  repeat' split
  all_goals exact h.aside {}

theorem nextPoll (s : State) : R s (nextPoll s) := by
  unfold Machine.nextPoll
  repeat' split
  all_goals exact h.aside {}

theorem wake (s : State) : R s (wake s) := by
  unfold Machine.wake
  split
  · refine h.trans ?_ (h.send _)
    refine h.trans (h.trans (h.aside ?_) (h.ensurePolling _)) (h.aside {})
    constructor <;> rfl
  · exact h.refl s

theorem startRunOn (s : State) : R s (startRunOn s) := by
  unfold Machine.startRunOn
  split <;> exact h.aside {}

theorem viaLink {src : Sender} {f : StationId → State → State}
    (hf : ∀ u, R u (f (senderStation src) u)) (s : State) : R s (viaLink src f s) := by
  cases src with
  | cab =>
    unfold Machine.viaLink
    dsimp only
    split
    · exact h.trans (h.wake s) (h.trans (hf _) (h.send _))
    · exact h.wake s
  | crew c n =>
    unfold Machine.viaLink
    dsimp only
    split
    · exact h.refl s
    · exact h.trans (h.crew c (fun x => { x with lastTaken := n }) s fun _ => le_rfl) (hf _)

theorem setEnable (c : CrewId) (held : Bool) (s : State) : R s (setEnable c held s) := by
  have hset : R s (modCrew c (fun x => { x with enable := held }) s) := h.crew _ _ s fun _ => le_rfl
  unfold Machine.setEnable enableReleased
  dsimp only
  repeat' split
  all_goals first
    | exact hset
    | exact h.trans hset (h.stop _ _)

theorem judgeVehicle (b : Bool) (s : State) : R s (judgeVehicle b s) := by
  unfold Machine.judgeVehicle
  split
  · exact h.stop _ s
  · exact h.refl s

/-! ## Slot requests -/

theorem takeSubmit (bytes : List Byte) (st : StationId) (s : State) : R s (takeSubmit bytes st s) := by
  unfold Machine.takeSubmit
  split
  · exact h.answer _ _ _ _ s
  · rename_i i hi
    exact h.trans (h.submit _ _ _ s hi) (h.settle _)

theorem takeCancel (n : Byte) (st : StationId) (s : State) : R s (takeCancel n st s) := by
  unfold Machine.takeCancel
  split
  · exact h.answer _ _ _ _ s
  · exact h.trans (h.answer _ _ _ _ s) (h.trans (h.cancel _ _) (h.settle _))

theorem takeRelease (n : Byte) (st : StationId) (s : State) : R s (takeRelease n st s) := by
  unfold Machine.takeRelease
  split
  · exact h.answer _ _ _ _ s
  · rename_i i hi
    refine h.trans (h.answer _ _ _ _ s) (h.trans (h.release i _ ?_) (h.settle _))
    unfold releaseJudged at hi
    split at hi
    · cases hi
    · split at hi
      · cases hi
        simpa [answerSlot]
      · cases hi

theorem takeClearFlag (n : Byte) (st : StationId) (s : State) : R s (takeClearFlag n st s) := by
  unfold Machine.takeClearFlag
  split
  · exact h.answer _ _ _ _ s
  · exact h.trans (h.answer _ _ _ _ s) (h.clearFlag _ _)

theorem takeRerun (n : Byte) (st : StationId) (s : State) : R s (takeRerun n st s) := by
  unfold Machine.takeRerun
  split
  · exact h.answer _ _ _ _ s
  · rename_i i hi
    unfold rerunJudged at hi
    split at hi
    · cases hi
    · rename_i hl
      split at hi
      · cases hi
      · split at hi
        · cases hi
        · split at hi
          · cases hi
          · rename_i hc
            split at hi
            · cases hi
            · cases hi
              refine h.trans (h.answer _ _ _ _ s) (h.trans (h.rerun _ _ ?_ ?_) (h.settle _))
              · simpa using hc
              · simpa using hl

theorem takeResume (n : Byte) (st : StationId) (s : State) : R s (takeResume n st s) := by
  unfold Machine.takeResume
  split
  · exact h.answer _ _ _ _ s
  · rename_i i hi
    refine h.trans (h.answer _ _ _ _ s) (h.trans (h.resume i _ ?_) (h.settle _))
    unfold resumeJudged at hi
    split at hi
    · cases hi
    · split at hi
      · cases hi
      · split at hi
        · cases hi
        · split at hi
          · cases hi
            simpa [answerSlot]
          · cases hi

theorem takeInterrogate (n : Byte) (st : StationId) (s : State) : R s (takeInterrogate n st s) := by
  unfold Machine.takeInterrogate
  split <;> exact h.answer _ _ _ _ s

/-! ## Zones, the hold and the loop -/

theorem takeBlockZone (n : Byte) (st : StationId) (s : State) : R s (takeBlockZone n st s) := by
  unfold Machine.takeBlockZone
  split
  · exact h.answer _ _ _ _ s
  · rename_i z _
    have ha : R s (answerZone st kindBlockZone z (modBlocks z (withBlock st) s)) :=
      h.trans (h.aside {}) (h.answer _ _ _ _ _)
    refine h.trans ?_ (h.settle _)
    split
    · exact h.trans ha (h.flush _ _)
    · exact ha

theorem takeUnblockZone (n : Byte) (st : StationId) (s : State) : R s (takeUnblockZone n st s) := by
  unfold Machine.takeUnblockZone
  split
  · exact h.answer _ _ _ _ s
  · exact h.trans (h.trans (h.aside {}) (h.answer _ _ _ _ _)) (h.settle _)

theorem takePermit (code : Byte) (st : StationId) (s : State) : R s (takePermit code st s) := by
  unfold Machine.takePermit
  split
  · exact h.answer _ _ _ _ s
  · exact h.trans (h.trans (h.aside {}) (h.answer _ _ _ _ _)) (h.settle _)

theorem interruptMasked (s : State) : R s (interruptMasked s) := by
  unfold Machine.interruptMasked
  split
  · exact h.refl s
  · split
    · exact h.stop _ s
    · exact h.refl s

theorem takeHold (code : Byte) (st : StationId) (s : State) : R s (takeHold code st s) := by
  unfold Machine.takeHold
  split
  · exact h.answer _ _ _ _ s
  · rename_i asked _
    have ha (l : HoldLevel) (r : Result) : R s (Machine.answer st kindHold .ok r (setHold l s)) :=
      h.trans (h.aside {}) (h.answer _ _ _ _ _)
    dsimp only
    split
    · exact ha _ _
    · exact h.trans (ha _ _) (h.trans (h.placeAll _ _) (h.trans (h.interruptMasked _) (h.settle _)))

theorem takeReleaseHold (st : StationId) (s : State) : R s (takeReleaseHold st s) := by
  unfold Machine.takeReleaseHold
  split
  · have ha : R s (Machine.answer st kindReleaseHold .ok .none (setHold .none s)) :=
      h.trans (h.aside {}) (h.answer _ _ _ _ _)
    dsimp only
    split
    · exact ha
    · exact h.trans ha (h.trans (h.placeAll _ _) (h.settle _))
  · exact h.answer _ _ _ _ s

theorem takeEmergencyReset (st : StationId) (s : State) : R s (takeEmergencyReset st s) := by
  unfold Machine.takeEmergencyReset
  split
  · exact h.answer _ _ _ _ s
  · split
    · rename_i hw
      exact h.trans (h.answer _ _ _ _ s) (h.trans (h.loopReady _ _ (by simpa using hw))
        (h.trans (h.judgePower _) (h.settle _)))
    · exact h.answer _ _ _ _ s

theorem takeClearFaults (map : BitVec 32) (st : StationId) (s : State) :
    R s (takeClearFaults map st s) := by
  unfold Machine.takeClearFaults
  split
  · exact h.answer _ _ _ _ s
  · exact h.trans (h.aside (t := clearNamed map s) {}) (h.trans (h.answer _ _ _ _ _) (h.settle _))

theorem takeReadStatus (st : StationId) (s : State) : R s (takeReadStatus st s) := h.answer _ _ _ _ s

/-! ## The configuration -/

theorem takeReadConfiguration (part : Byte) (st : StationId) (s : State) :
    R s (takeReadConfiguration part st s) := by
  unfold Machine.takeReadConfiguration
  split <;> exact h.answer _ _ _ _ s

theorem takeWriteConfiguration (record : List Byte) (st : StationId) (s : State) :
    R s (takeWriteConfiguration record st s) := by
  unfold Machine.takeWriteConfiguration
  split
  · exact h.answer _ _ _ _ s
  · split
    · exact h.answer _ _ _ _ s
    · exact h.program _ s

theorem takeRestart (b : Nat) (st : StationId) (s : State)
    (hb : st = 0 → ∀ l r u, R u (startUp l r u)) : R s (takeRestart b st s) := by
  unfold Machine.takeRestart
  split
  · exact h.answer _ _ _ _ s
  · rename_i hr
    refine hb ?_ _ _ s
    by_contra hst
    simp [restartRefusal, hst] at hr

/-! ## Requests as bytes -/

theorem takeRequest (r : Request) (st : StationId) (s : State)
    (hb : st = 0 → ∀ l r u, R u (startUp l r u)) : R s (takeRequest r st s) := by
  cases r with
  | submit b => exact h.takeSubmit b st s
  | cancel i => exact h.takeCancel i st s
  | release i => exact h.takeRelease i st s
  | clearFlag i => exact h.takeClearFlag i st s
  | rerun i => exact h.takeRerun i st s
  | resume i => exact h.takeResume i st s
  | interrogate i => exact h.takeInterrogate i st s
  | blockZone z => exact h.takeBlockZone z st s
  | unblockZone z => exact h.takeUnblockZone z st s
  | trafficPermit c => exact h.takePermit c st s
  | hold l => exact h.takeHold l st s
  | releaseHold => exact h.takeReleaseHold st s
  | emergencyReset => exact h.takeEmergencyReset st s
  | clearFaults m => exact h.takeClearFaults m st s
  | readStatus => exact h.takeReadStatus st s
  | readConfiguration p => exact h.takeReadConfiguration p st s
  | writeConfiguration b => exact h.takeWriteConfiguration b st s
  | restart => exact h.takeRestart _ st s hb

theorem takeBody (body : List Byte) (st : StationId) (s : State)
    (hb : st = 0 → ∀ l r u, R u (startUp l r u)) : R s (takeBody body st s) := by
  unfold Machine.takeBody
  split
  · exact h.refl s
  · split
    · exact h.takeRequest _ st s hb
    · exact h.answer _ _ _ _ s

theorem takeCabBody (body : List Byte) (s : State) (hb : ∀ l r u, R u (startUp l r u)) :
    R s (takeCabBody body s) := by
  unfold Machine.takeCabBody
  split
  · exact h.refl s
  · split
    · exact h.answer _ _ _ _ s
    · exact h.takeBody _ 0 s fun _ => hb

theorem takeRaw (body : List Byte) (st : StationId) (s : State)
    (hb : st = 0 → ∀ l r u, R u (startUp l r u)) : R s (takeRaw body st s) := by
  unfold Machine.takeRaw
  split
  · rename_i hst
    exact h.takeCabBody body s (hb hst)
  · exact h.takeBody body st s hb

/-! ## The crew link -/

theorem replyRequest (c : CrewId) (f : ReplyFields) (s : State) : R s (replyRequest c f s) := by
  unfold Machine.replyRequest
  split
  · exact h.refl s
  · refine h.trans (h.crew c (fun x => { x with lastTaken := f.number }) s fun _ => le_rfl)
      (h.takeBody _ _ _ fun hst => ?_)
    exact absurd hst (stationOf_ne_cab c)

theorem goodReply (p : Poll) (f : ReplyFields) (s : State) : R s (goodReply p f s) := by
  have hqueue : R s (modCrew p.station
      (fun x => afterGood { x with queue := afterCarried p.notice x.queue }) s) :=
    h.crew _ _ s fun x => by rw [afterGood_queue]; exact afterCarried_length _ _
  exact h.trans hqueue (h.trans (h.setEnable _ _ _) (h.trans (h.settle _) (h.replyRequest _ _ _)))

theorem missed (p : Poll) (s : State) : R s (missed p s) := by
  have ha : R s (Machine.setEnable p.station false (modCrew p.station afterMiss s)) :=
    h.trans (h.crew _ _ s fun x => (congrArg List.length (afterMiss_queue x)).le) (h.setEnable _ _ _)
  unfold Machine.missed
  dsimp only
  split
  · exact h.trans ha (h.trans (h.crew _ _ _ fun _ => Nat.zero_le _) (h.ownerLoss _ _))
  · exact ha

theorem takeReply (p : Poll) (frame : List Byte) (s : State) : R s (takeReply p frame s) := by
  unfold Machine.takeReply
  split
  · exact h.goodReply p _ s
  · exact h.missed p s

/-! ## The chassis port -/

theorem rampLevelNow (k : Stroke) (s : State) (hk : s.se.stroke = some k) :
    R s (rampLevelNow k s) := h.drive k _ s hk

theorem ceilingChange (s : State) : R s (ceilingChange s) := by
  unfold Machine.ceilingChange
  split
  · exact h.refl s
  · rename_i k hk
    dsimp only
    split
    · exact h.trans (h.drive k _ s hk) (h.stroke k _ _ hk rfl rfl)
    · exact h.stroke k _ s hk rfl rfl
    · exact h.trans (h.stroke k { k with vc := min k.vc (s.axisCfg k.axis).creep } s hk rfl rfl)
        (h.rampLevelNow _ _ rfl)
    · exact h.refl s
    · exact h.refl s

theorem changeSupply (new : SupplyState) (s : State) : R s (changeSupply new s) := by
  unfold Machine.changeSupply
  split
  · exact h.refl s
  · have hset : ∀ u, R s u → R s (if s.sup.supply = .normal then Machine.ceilingChange u
        else match u.se.stroke with
          | some k => if k.phase = .stopping then Machine.rampLevelNow k u else u
          | none => u) := by
      intro u hu
      split
      · exact h.trans hu (h.ceilingChange u)
      · split
        · rename_i k hk
          split
          · exact h.trans hu (h.rampLevelNow k u hk)
          · exact hu
        · exact hu
    refine hset _ ?_
    dsimp only
    split
    · exact h.aside {}
    · exact h.aside {}

theorem engineHanded (s : State) : R s (engineHanded s) := by
  unfold Machine.engineHanded
  split
  · exact h.trans (h.aside {}) (h.changeSupply _ _)
  · exact h.refl s

theorem takeChassis (data : List Byte) (s : State) : R s (takeChassis data s) := by
  unfold Machine.takeChassis
  split
  · exact h.refl s
  · refine h.trans (h.aside ?_) (h.trans (h.judgeVehicle _ _) (h.trans (h.engineHanded _)
      (h.trans (h.judgeIgnition _ _) (h.settle _))))
    constructor <;> rfl

theorem becomeStale (s : State) : R s (becomeStale s) := by
  unfold Machine.becomeStale
  refine h.trans (h.aside ?_) (h.trans (h.judgeVehicle _ _) (h.judgeIgnition _ _))
  constructor <;> rfl

theorem takePresence (s : State) : R s (takePresence s) := h.cab _ s le_rfl

theorem cabLost (s : State) : R s (cabLost s) := by
  unfold Machine.cabLost
  refine h.trans (h.cab { s.cab with presenceT := none, staging := none, queue := [] } s
    (Nat.zero_le _)) (h.trans (h.aside ?_) (h.ownerLoss _ _))
  constructor <;> rfl

theorem setStaging (g : Option Staging) (s : State) : R s (setStaging g s) := h.cab _ s le_rfl

theorem refuseSegment (kind : Byte) (f : SegFailure) (s : State) : R s (refuseSegment kind f s) :=
  h.trans (h.answer _ _ _ _ s) (h.send _)

theorem failRun (g : Staging) (f : SegFailure) (s : State) : R s (failRun g f s) :=
  h.trans (h.setStaging _ s) (h.refuseSegment _ _ _)

theorem openRun (data : List Byte) (s : State) : R s (openRun data s) := by
  unfold Machine.openRun
  dsimp only
  split
  · exact h.refuseSegment _ _ s
  · split
    · exact h.refuseSegment _ _ s
    · exact h.setStaging _ s

theorem takeFirst (data : List Byte) (s : State) : R s (takeFirst data s) := by
  unfold Machine.takeFirst
  split
  · exact h.openRun data s
  · exact h.trans (h.failRun _ _ s) (h.openRun data _)

theorem handRun (g : Staging) (s : State) : R s (handRun g s) := by
  unfold Machine.handRun
  refine h.trans (h.setStaging none s) (h.trans ?_ (h.send _))
  split
  · exact h.takeSubmit _ _ _
  · exact h.takeWriteConfiguration _ _ _

theorem takeData (data : List Byte) (s : State) : R s (takeData data s) := by
  unfold Machine.takeData
  split
  · exact h.refl s
  · split
    · exact h.failRun _ _ s
    · split
      · exact h.failRun _ _ s
      · dsimp only
        split
        · exact h.handRun _ s
        · exact h.setStaging _ s

theorem ifCab {f : State → State} (hf : ∀ u, R u (f u)) (s : State) : R s (ifCab f s) := by
  unfold Machine.ifCab
  split
  · exact hf s
  · exact h.refl s

theorem takeSegment (data : List Byte) (s : State) : R s (takeSegment data s) := by
  unfold Machine.takeSegment
  split
  · exact h.takeData data s
  · split
    · exact h.takeFirst data s
    · exact h.takeData data s

theorem takeFrame (kind : RxKind) (data : List Byte) (s : State)
    (hb : ∀ l r u, R u (startUp l r u)) : R s (takeFrame kind data s) := by
  cases kind with
  | chassisStatus => exact h.takeChassis data s
  | cabPresence => exact h.takePresence s
  | cabRequest => exact h.ifCab (fun u => h.trans (h.takeCabBody data u hb) (h.send _)) s
  | cabSegment => exact h.ifCab (h.takeSegment data) s

theorem frameAcknowledged (r : TxRun) (s : State) : R s (frameAcknowledged r s) := by
  unfold Machine.frameAcknowledged
  split
  · exact h.aside {}
  · split
    · dsimp only
      split
      · exact h.trans (h.aside (t := { s with tx := { s.tx with run := none } }) {})
          (h.cab { s.cab with queue := afterSent r.number s.cab.queue } _ (afterSent_length _ _))
      · exact h.aside {}
    · exact h.aside {}

/-! ## The pump, the sensors and the strokes -/

theorem takePressure (bar : Nat) (s : State) : R s (takePressure bar s) := by
  have hdriving : R s (pressureDriving bar s) := by
    unfold pressureDriving
    split
    · exact h.refl s
    · rename_i k hk
      repeat' split
      all_goals first
        | exact h.refl s
        | exact h.stroke k _ s hk rfl rfl
  unfold Machine.takePressure
  split
  · unfold pressureStarting
    split
    · have hready : R s (Machine.pumpReady
          { s with arb := { s.arb with pump := .ready, startT := none } }) :=
        h.trans (h.aside {}) (h.pumpReady _)
      refine h.trans hready ?_
      dsimp only
      split
      · exact h.trans (h.startRunOn _) (h.settle _)
      · exact h.settle _
    · exact h.refl s
  · refine h.trans hdriving ?_
    unfold pressureFlowing
    repeat' split
    all_goals exact h.aside {}
  all_goals exact h.refl s

theorem pumpFailed (c : PumpCause) (s : State) : R s (pumpFailed c s) := by
  have hfault : R s (pumpFault c s) := by
    refine h.trans (h.aside ?_) (h.trans (h.placeAll _ _) (h.report _ _))
    constructor <;> rfl
  unfold Machine.pumpFailed
  dsimp only
  split
  · exact hfault
  · rename_i i hi
    exact h.trans hfault (h.holderEnds i _ _ hi)

theorem sensorFaulted (a : AxisId) (s : State) : R s (sensorFaulted a s) := by
  unfold Machine.sensorFaulted
  dsimp only
  split
  · exact h.report _ s
  · rename_i i hi
    split
    · exact h.trans (h.report _ s) (h.holderEnds i _ _ hi)
    · exact h.report _ s

theorem driveSample (k : Stroke) (p : Nat) (s : State) (hk : s.se.stroke = some k) :
    R s (driveSample k p s) := by
  unfold Machine.driveSample
  dsimp only
  split
  · exact h.strokeEnds k _ s hk
  · split
    · exact h.arrive _ _ _ s hk
    · split
      · exact h.trans (h.drive k _ s hk) (h.stroke k _ _ hk rfl rfl)
      · exact h.trans (h.drive k _ s hk) (h.stroke k _ _ hk rfl rfl)

theorem strokeSample (a : AxisId) (p : Nat) (s : State) : R s (strokeSample a p s) := by
  unfold Machine.strokeSample
  split
  · exact h.refl s
  · rename_i k hk
    repeat' split
    all_goals first
      | exact h.refl s
      | exact h.driveSample k p s hk
      | exact h.rampLevelNow k s hk

theorem takeSample (a : AxisId) (b : Bool) (p : Nat) (s : State) : R s (takeSample a b p s) := by
  have hset (x : Sensor) : R s (Machine.derivePositions (setSensor a x s)) :=
    h.trans (h.aside {}) (h.derivePositions _)
  unfold Machine.takeSample
  dsimp only
  split
  · exact h.trans (hset _) (h.sensorFaulted _ _)
  · split
    · exact h.trans (hset _) (h.strokeSample _ _ _)
    · exact hset _

theorem watchdogExpired (a : AxisId) (s : State) : R s (watchdogExpired a s) := by
  unfold Machine.watchdogExpired
  refine h.trans (h.aside ?_) (h.trans (h.derivePositions _) (h.sensorFaulted _ _))
  constructor <;> rfl

theorem latchChanged (d : DoorId) (made : Bool) (s : State) : R s (latchChanged d made s) := by
  have hset : R s (Machine.derivePositions
      { s with lines := { s.lines with latchMade := upd s.lines.latchMade d fun _ => made } }) := by
    refine h.trans (h.aside ?_) (h.derivePositions _)
    constructor <;> rfl
  unfold Machine.latchChanged
  dsimp only
  split
  · exact hset
  · rename_i k hk
    split
    · exact h.trans hset (h.trans (h.drive k _ _ hk) (h.stroke k _ _ hk rfl rfl))
    · exact hset

/-! ## Power, lamps and zones -/

theorem takeMeasurement (b : Nat) (s : State) : R s (takeMeasurement b s) := by
  unfold Machine.takeMeasurement
  dsimp only
  split
  · exact h.aside {}
  · split
    · exact h.aside {}
    · refine h.trans (h.aside ?_) (h.trans (h.changeSupply _ _) (h.settle _))
      constructor <;> rfl

theorem ignitionChanged (on : Bool) (s : State) : R s (ignitionChanged on s) := by
  have hset : R s { s with lines := { s.lines with ignition := on } } := h.aside {}
  unfold Machine.ignitionChanged
  dsimp only
  split
  · split
    · exact h.trans hset (h.wake _)
    · exact hset
  · exact h.trans hset (h.judgeIgnition _ _)

theorem enterParked (s : State) : R s (enterParked s) := by
  have hsup : R s { s with sup := { s.sup with power := .parked, standbyT := none } } := h.aside {}
  rw [enterParked_eq]
  exact h.trans (h.trans hsup (h.foldl (fun u c => h.setEnable c false u) allCrew _))
    (h.aside (aside_darkened _))

theorem takeReading (b : BeaconId) (ma : Nat) (s : State) : R s (takeReading b ma s) := by
  have hset : R s { s with bu := { s.bu with
      beacons := upd s.bu.beacons b (lampRead s.cfg.beacons[b].imin ma) } } := h.aside {}
  unfold Machine.takeReading
  dsimp only
  split
  · exact h.trans hset (h.trans (h.report _ _) (h.settle _))
  · split
    · refine h.trans hset (h.trans (h.foldl (fun u z => ?_) _ _) (h.settle _))
      split <;> exact h.aside {}
    · exact hset

theorem preWarnPassed (z : ZoneId) (s : State) : R s (preWarnPassed z s) := by
  unfold Machine.preWarnPassed
  split <;> exact h.aside {}

/-! ## The commands -/

/-- What holds of each reaction holds of the next state of every command. -/
theorem exec (c : Instr) (s t : State) (he : exec c s = .next t)
    (hb : mayStartUp c → ∀ l r u, R u (startUp l r u))
    (hw : c = .writeConfigurationCompletion → ∀ record u, R u (writeCompleted record u)) : R s t := by
  have close {a : State} (ha : R s a) (hn : Host.Outcome.next (φ := Fault) (ρ := Refusal) a = .next t) :
      R s t := by cases hn; exact ha
  cases c with
  | submit src b => exact close (h.viaLink (fun u => h.takeSubmit b _ u) s) he
  | cancel src n => exact close (h.viaLink (fun u => h.takeCancel n _ u) s) he
  | release src n => exact close (h.viaLink (fun u => h.takeRelease n _ u) s) he
  | clearFlag src n => exact close (h.viaLink (fun u => h.takeClearFlag n _ u) s) he
  | rerun src n => exact close (h.viaLink (fun u => h.takeRerun n _ u) s) he
  | resume src n => exact close (h.viaLink (fun u => h.takeResume n _ u) s) he
  | interrogate src n => exact close (h.viaLink (fun u => h.takeInterrogate n _ u) s) he
  | blockZone src n => exact close (h.viaLink (fun u => h.takeBlockZone n _ u) s) he
  | unblockZone src n => exact close (h.viaLink (fun u => h.takeUnblockZone n _ u) s) he
  | trafficPermitGrant src => exact close (h.viaLink (fun u => h.takePermit _ _ u) s) he
  | trafficPermitWithdraw src => exact close (h.viaLink (fun u => h.takePermit _ _ u) s) he
  | hold src n => exact close (h.viaLink (fun u => h.takeHold n _ u) s) he
  | releaseHold src => exact close (h.viaLink (fun u => h.takeReleaseHold _ u) s) he
  | emergencyReset src => exact close (h.viaLink (fun u => h.takeEmergencyReset _ u) s) he
  | clearFaults src m => exact close (h.viaLink (fun u => h.takeClearFaults m _ u) s) he
  | readStatus src => exact close (h.viaLink (fun u => h.takeReadStatus _ u) s) he
  | readConfiguration src p => exact close (h.viaLink (fun u => h.takeReadConfiguration p _ u) s) he
  | writeConfiguration src r => exact close (h.viaLink (fun u => h.takeWriteConfiguration r _ u) s) he
  | restart src b =>
    refine close (h.viaLink (fun u => h.takeRestart b _ u fun hst => ?_) s) he
    cases src with
    | cab => exact hb (.inr (.inl ⟨b, rfl⟩))
    | crew c n => exact absurd hst (stationOf_ne_cab c)
  | undecodableRequest src body =>
    refine close (h.viaLink (fun u => h.takeRaw body _ u fun hst => ?_) s) he
    cases src with
    | cab => exact hb (.inr (.inr (.inl ⟨body, rfl⟩)))
    | crew c n => exact absurd hst (stationOf_ne_cab c)
  | writeConfigurationCompletion =>
    refine close ?_ he
    split
    · exact h.trans (hw rfl _ s) (h.settle _)
    · exact h.refl s
  | powerOn l => exact close (hb (.inl ⟨l, rfl⟩) l none s) he
  | sensorSample a b p =>
    refine close ?_ he
    split
    · exact h.trans (h.takeSample a b p s) (h.settle _)
    · exact h.refl s
  | sampleWatchdogExpiry a =>
    refine close ?_ he
    split
    · exact h.trans (h.watchdogExpired a s) (h.settle _)
    · exact h.refl s
  | pumpPressureSample bar => exact close (h.takePressure bar s) he
  | latchSwitchChange d made =>
    refine close ?_ he
    split
    · exact h.refl s
    · exact h.trans (h.wake s) (h.trans (h.latchChanged d made _) (h.settle _))
  | channelChange ch closed =>
    refine close ?_ he
    split
    · exact h.refl s
    · exact h.trans (h.wake s) (h.trans (h.channel ch closed _) (h.settle _))
  | discrepancyTimerExpiry =>
    refine close ?_ he
    split
    · rename_i hd
      exact h.trans (h.discrepancy s (due_isSome hd)) (h.settle _)
    · exact h.refl s
  | batteryMeasurement b => exact close (h.takeMeasurement b s) he
  | ignitionLineChange on =>
    refine close ?_ he
    split
    · exact h.refl s
    · exact h.ignitionChanged on s
  | wakeLinePull => exact close (h.wake s) he
  | reply frame =>
    refine close ?_ he
    split
    · exact h.trans (h.takeReply _ frame s) (h.trans (h.settle _) (h.nextPoll _))
    · exact h.refl s
  | replyWindowExpiry =>
    refine close ?_ he
    split
    · exact h.trans (h.missed _ s) (h.trans (h.settle _) (h.nextPoll _))
    · exact h.refl s
  | chassisStatus data => exact close (h.trans (h.wake s) (h.takeChassis data _)) he
  | freshnessTimerExpiry =>
    refine close ?_ he
    split
    · exact h.trans (h.becomeStale s) (h.settle _)
    · exact h.refl s
  | cabPresence data => exact close (h.trans (h.wake s) (h.takePresence _)) he
  | presenceTimerExpiry =>
    refine close ?_ he
    split
    · exact h.trans (h.cabLost s) (h.settle _)
    · exact h.refl s
  | firstSegment data => exact close (h.trans (h.wake s) (h.ifCab (h.takeFirst data) _)) he
  | dataSegment data => exact close (h.trans (h.wake s) (h.ifCab (h.takeData data) _)) he
  | gapTimerExpiry =>
    refine close ?_ he
    repeat' split
    all_goals first
      | exact h.failRun _ _ s
      | exact h.refl s
  | partStatusPeriodExpiry =>
    refine close ?_ he
    split
    · refine h.trans (h.aside ?_) (h.send _)
      constructor <;> rfl
    · exact h.refl s
  | canFrameTransmitted ack =>
    refine close ?_ he
    repeat' split
    all_goals first
      | exact h.trans (h.frameAcknowledged _ s) (h.send _)
      | exact h.refl s
  | dwellTimerExpiry i =>
    refine close ?_ he
    split
    · rename_i hd
      exact h.trans (h.dwell i s (due_isSome hd)) (h.settle _)
    · exact h.refl s
  | releaseTimerExpiry z =>
    refine close ?_ he
    split
    · exact h.trans (h.aside {}) (h.settle _)
    · exact h.refl s
  | permitTimerExpiry =>
    refine close ?_ he
    split
    · exact h.trans (h.aside {}) (h.settle _)
    · exact h.refl s
  | preWarnTimerExpiry z =>
    refine close ?_ he
    split
    · exact h.trans (h.preWarnPassed z s) (h.settle _)
    · exact h.refl s
  | startTimerExpiry =>
    refine close ?_ he
    split
    · exact h.trans (h.pumpFailed _ s) (h.settle _)
    · exact h.refl s
  | runOnTimerExpiry =>
    refine close ?_ he
    split
    · exact h.aside {}
    · exact h.refl s
  | pressureLossTimerExpiry =>
    refine close ?_ he
    split
    · exact h.trans (h.pumpFailed _ s) (h.settle _)
    · exact h.refl s
  | timeLimitExpiry | stallTimerExpiry | latchTimerExpiry | settleTimerExpiry =>
    refine close ?_ he
    split
    · rename_i k hk
      exact h.trans (h.strokeEnds k _ s (stroke_of_strokeWith hk)) (h.settle _)
    · exact h.refl s
  | rampTimerExpiry =>
    refine close ?_ he
    split
    · rename_i k hk
      exact h.trans (h.stopEnds k s (stroke_of_strokeWith hk)) (h.settle _)
    · exact h.refl s
  | lampReading b ma =>
    refine close ?_ he
    split
    · exact h.takeReading b ma s
    · exact h.refl s
  | flashEdge => exact close (h.aside {}) he
  | standbyTimerExpiry =>
    refine close ?_ he
    split
    · exact h.enterParked s
    · exact h.refl s
  | pollEnd =>
    refine close ?_ he
    repeat' split
    all_goals exact h.aside {}
  | otherIdentifierFrame ident data =>
    have hboot := hb (.inr (.inr (.inr ⟨ident, data, rfl⟩)))
    refine close ?_ he
    split
    · exact h.trans (h.wake s) (h.takeFrame _ data _ hboot)
    · exact h.wake s

end CommandReaction

end Sys2Proof.Machine
end

section
/-! PROOFS. The statements that hold of every command by what it leaves alone: the commands waiting and the
clock, the record in force, and the bounds of the notice queues. -/

namespace Sys2Proof.Machine

/-- A taken join is made of updates of its slot, its axis and its stroke (R111). -/
theorem SlotReaction.takeJoin {i : SlotId} {R : State → State → Prop} (h : SlotReaction i R) {k : Stroke}
    (hk : k.slot = i) (p : Nat) (s : State) : R s (takeJoin k p s) := by
  subst hk
  unfold Machine.takeJoin
  have hslot := h.slot (fun x => { x with step := x.step + 1, interrupted := false }) s
  generalize modSlot k.slot (fun x => { x with step := x.step + 1, interrupted := false }) s = u at hslot ⊢
  dsimp only
  split
  · exact hslot
  · rename_i st _
    have htold : R u (if st.notify then Machine.progress (u.slot k.slot).owner k.slot .stepStarted u
        else u) := by
      split
      · exact h.place _ _ u
      · exact h.refl u
    generalize (if st.notify then Machine.progress (u.slot k.slot).owner k.slot .stepStarted u else u) = v
      at htold ⊢
    have hplan := planStroke_slot v k (v.slot k.slot) st true p
    generalize planStroke v k (v.slot k.slot) st true p = k' at hplan ⊢
    have hmark : R v (if k'.join = .dropped then Machine.markJoinDropped k'.slot v else v) := by
      rw [hplan]
      split
      · exact h.markJoinDropped v
      · exact h.refl v
    exact h.trans hslot (h.trans htold (h.trans hmark (h.beginDriving _ _ _)))

/-- The fields that only the links and the store write. -/
structure Quiet (s t : State) : Prop where
  pending : t.pending = s.pending := by rfl
  clock : t.clock = s.clock := by rfl
  crew : t.crew = s.crew := by rfl
  cab : t.cab = s.cab := by rfl
  cfg : t.cfg = s.cfg := by rfl
  store : t.store = s.store := by rfl

/-- A relation that speaks of these fields alone. -/
structure LinkReaction (R : State → State → Prop) : Prop where
  refl : ∀ s, R s s
  trans : ∀ {s t u}, R s t → R t u → R s u
  quiet : ∀ {s t}, Quiet s t → R s t
  place : ∀ st n s, R s (place st n s)
  crew : ∀ c f s, (∀ x, (f x).queue.length ≤ x.queue.length) → R s (modCrew c f s)
  cab : ∀ x s, x.queue.length ≤ s.cab.queue.length → R s { s with cab := x }
  program : ∀ p s, R s { s with store := { s.store with programming := p } }

namespace LinkReaction

variable {R : State → State → Prop} (h : LinkReaction R)
include h

theorem slotReaction (i : SlotId) : SlotReaction i R where
  refl := h.refl
  trans := h.trans
  slot _ _ := h.quiet {}
  queue _ _ _ := h.quiet {}
  place := h.place
  holder _ _ := h.quiet {}
  pump _ _ _ _ := h.quiet {}
  drive _ _ _ := h.quiet {}
  stroke _ _ := h.quiet {}
  power _ _ _ := h.quiet {}

theorem sendNext (s : State) : R s (sendNext s) := by
  unfold Machine.sendNext
  repeat' split
  all_goals exact h.quiet {}

theorem judgeDriveOff (s : State) : R s (judgeDriveOff s) := by
  unfold Machine.judgeDriveOff
  split
  · split <;> exact h.quiet {}
  · split
    · exact h.trans (h.quiet (t := { s with
        zt := { s.zt with driveOff := true, permitT := none }, tx := { s.tx with due := true } }) {})
        (controlledStop_rel h.slotReaction _ _)
    · exact h.refl s

theorem closing : Closing R where
  refl := h.refl
  trans := h.trans
  grant i s _ := (h.slotReaction i).grant s
  intent _ _ := h.quiet {}
  warn _ _ _ := h.quiet {}
  beacons _ _ _ := h.quiet {}
  sound _ := h.quiet {}
  send := h.sendNext

theorem cancelEffect (i : SlotId) (s : State) : R s (cancelEffect i s) := by
  unfold Machine.cancelEffect
  split
  case h_4 => exact controlledStop_rel h.slotReaction _ s
  case h_5 => exact h.quiet {}
  case h_6 | h_7 => exact h.refl s
  all_goals exact (h.slotReaction i).seqEnd _ _ s

theorem flush (z : ZoneId) (s : State) : R s (flush z s) := by
  refine h.closing.foldl (fun u i => ?_) allSlots s
  unfold flushOne
  split
  · split
    · exact (h.slotReaction i).strokeEnds _ u
    · exact (h.slotReaction i).seqEnd _ _ u
  · exact h.refl u

theorem ownerLoss (st : StationId) (s : State) : R s (ownerLoss st s) := by
  refine h.closing.foldl (fun u i => ?_) allSlots s
  unfold ownerLossOn
  split
  · split
    · exact h.trans ((h.slotReaction i).leaveQueue u) ((h.slotReaction i).pauseSlot _ _)
    all_goals exact h.quiet {}
  · exact h.refl u

theorem arrive (n p : Nat) (k : Stroke) (s : State) : R s (arrive n p k s) := by
  induction n generalizing k s with
  | zero => exact h.refl s
  | succ n ih =>
    unfold Machine.arrive
    split
    · have hjoin := (h.slotReaction k.slot).takeJoin rfl p s
      dsimp only
      split
      · split
        · exact h.trans hjoin (ih _ _)
        · exact hjoin
      · exact hjoin
    · exact (h.slotReaction k.slot).beginSettling rfl s

theorem placeAll (n : Notice) (s : State) : R s (placeAll n s) :=
  h.closing.foldl (fun u st => h.place st n u) allStations s

theorem setLoop (new : LoopState) (st : Option StationId) (s : State) : R s (setLoop new st s) :=
  h.trans (h.quiet {}) (h.placeAll _ _)

theorem leaveReady (s : State) : R s (leaveReady s) := by
  have hcut : ∀ u, R u (cutPump (cutStroke u)) := by
    intro u
    unfold cutPump
    split <;> exact h.quiet {}
  refine h.trans (h.setLoop .tripped none s) (h.trans (hcut _) (h.closing.foldl (fun u i => ?_) _ _))
  unfold tripOne
  split
  case h_1 | h_2 => exact h.refl u
  all_goals exact (h.slotReaction i).seqEnd _ _ u

theorem channelChanged (ch : Channel) (closed : Bool) (s : State) : R s (channelChanged ch closed s) := by
  unfold Machine.channelChanged
  dsimp only
  split
  · exact h.quiet {}
  · split
    · exact h.trans (h.quiet {}) (h.leaveReady _)
    · exact h.trans (h.quiet {}) (h.setLoop _ _ _)

theorem report (f : Flag) (s : State) : R s (report f s) := h.quiet {}

theorem discrepancyExpired (s : State) : R s (discrepancyExpired s) := by
  have hloop : R s { s with loop := { s.loop with discT := none, bothOpen := false } } := h.quiet {}
  exact h.trans hloop (h.trans (h.setLoop .loopFault none _) (h.report .loop _))

theorem acceptSubmit (st : StationId) (i : SlotId) (bytes : List Byte) (s : State) :
    R s (acceptSubmit st i bytes s) :=
  h.trans ((h.slotReaction i).slot (fun _ => acceptedSlot st (storedBlock bytes)) s)
    (h.trans ((h.slotReaction i).judgePower _) (h.trans (h.place _ _ _)
      ((h.slotReaction i).makeCurrent _ _)))

theorem pumpReady (s : State) : R s (pumpReady s) := by
  cases hk : s.se.stroke with
  | none => unfold Machine.pumpReady; rw [hk]; exact h.refl s
  | some k =>
    refine (h.slotReaction k.slot).pumpReady s fun k' hk' => ?_
    rw [hk] at hk'
    cases hk'
    rfl

theorem commandReaction : CommandReaction R where
  refl := h.refl
  trans := h.trans
  aside ha := h.quiet { ha with }
  place := h.place
  crew := h.crew
  cab := h.cab
  program := h.program
  settle := h.closing.settle h.judgeDriveOff
  cancel := h.cancelEffect
  release i s _ := (h.slotReaction i).freeSlot s
  clearFlag i s := (h.slotReaction i).slot _ s
  rerun i s _ _ := h.trans ((h.slotReaction i).slot rerunSlot s) ((h.slotReaction i).makeCurrent _ _)
  resume i s _ := (h.slotReaction i).resumeStep s
  submit st bytes i s _ := h.acceptSubmit st i bytes s
  dwell i s _ := h.trans ((h.slotReaction i).slot (fun x => { x with dwellT := none }) s) ((h.slotReaction i).stepDone _)
  flush := h.flush
  stop := controlledStop_rel h.slotReaction
  ownerLoss := h.ownerLoss
  pumpReady := h.pumpReady
  strokeEnds k e s _ := (h.slotReaction k.slot).strokeEnds e s
  holderEnds i e s _ := (h.slotReaction i).strokeEnds e s
  stopEnds k s _ := (h.slotReaction k.slot).stopEnds rfl s
  stroke _ _ _ _ _ _ := h.quiet {}
  drive _ _ _ _ := h.quiet {}
  arrive n p k s _ := h.arrive n p k s
  channel := h.channelChanged
  discrepancy s _ := h.discrepancyExpired s
  loopReady st s _ := h.setLoop _ st s

end LinkReaction

/-! ## The commands waiting and the clock -/

/-- The commands waiting and the clock are as they were. -/
def WaitingKept (s t : State) : Prop := t.pending = s.pending ∧ t.clock = s.clock

theorem waitingKept_linkReaction : LinkReaction WaitingKept where
  refl _ := ⟨rfl, rfl⟩
  trans h g := ⟨g.1.trans h.1, g.2.trans h.2⟩
  quiet h := ⟨h.pending, h.clock⟩
  place st n s := ⟨(place_keeps st n s).pending, (place_keeps st n s).clock⟩
  crew _ _ _ _ := ⟨rfl, rfl⟩
  cab _ _ _ := ⟨rfl, rfl⟩
  program _ _ := ⟨rfl, rfl⟩

theorem relight_aside (s : State) : Aside s (relight s) := by constructor <;> rfl

/-- The parts of a start-up that follow the reset of the blocks. -/
theorem startUp_of_resetBlocks {R : State → State → Prop} (h : CommandReaction R) (l : LineLevels)
    (r : Option TxRun) (s : State) (hr : R s (resetBlocks l r s)) : R s (startUp l r s) := by
  unfold startUp
  exact h.trans hr (h.trans (h.derivePositions _) (h.trans (h.ensurePolling _)
    (h.trans (h.aside (relight_aside _)) (h.send _))))

theorem mapBeacons_aside (f : BeaconId → Beacon → Beacon) (s : State) : Aside s (mapBeacons f s) := by
  constructor <;> rfl

/-- The state as a completed write hands it to the blocks that derive from it (R174). -/
def recordRead (record : List Byte) (s : State) : State :=
  { s with
    sensors := Vector.zipWith (fun (p : AxisCfg × AxisCfg) x => sensorAcross p.1 p.2 x)
      (Vector.zip s.cfg.axes (readCfg record).axes) s.sensors
    crew := Vector.zipWith crewAcross (readCfg record).stations s.crew
    sup := { s.sup with belowNormal := none, belowExh := none, aboveExh := none, aboveNormal := none }
    cfg := readCfg record }

/-- The beacons across a configuration write (R130). -/
def lampsRead (old : Cfg) (s : State) : State :=
  mapBeacons (fun b x => beaconAcross s.cfg.beacons[b] (cutByRecord old s.cfg s.bu.phase x) x) s

theorem comeIntoForce_eq (record : List Byte) (s : State) : comeIntoForce record s
    = ensurePolling (relight (derivePositions (lampsRead s.cfg (recordRead record s)))) := rfl

/-- What holds of the reading of the record holds of its coming into force. -/
theorem comeIntoForce_of_recordRead {R : State → State → Prop} (h : CommandReaction R)
    (record : List Byte) (s : State) (hr : R s (recordRead record s)) :
    R s (comeIntoForce record s) := by
  rw [comeIntoForce_eq]
  exact h.trans hr (h.trans (h.aside (mapBeacons_aside _ _)) (h.trans (h.derivePositions _)
    (h.trans (h.aside (relight_aside _)) (h.ensurePolling _))))

/-- What holds of the store's new content and of the reading of the record holds of the completed write. -/
theorem writeCompleted_of_recordRead {R : State → State → Prop} (h : CommandReaction R)
    (hs : ∀ st s, R s { s with store := st }) (hr : ∀ record s, R s (recordRead record s))
    (record : List Byte) (s : State) : R s (writeCompleted record s) := by
  unfold writeCompleted
  dsimp only
  split
  · exact h.trans (hs _ s) (h.answer _ _ _ _ _)
  · exact h.trans (hs _ s) (h.trans (comeIntoForce_of_recordRead h record _ (hr _ _))
      (h.answer _ _ _ _ _))

/-- Every command has a next state. -/
theorem exec_next (c : Instr) (s : State) : ∃ t, exec c s = .next t := by
  cases c <;> exact ⟨_, rfl⟩

/-- Settles O3: no reaction of a command writes the queue or the clock. -/
theorem everyCommandAnswersANextState : Obligations.EveryCommandAnswersANextState := by
  intro c s
  obtain ⟨t, ht⟩ := exec_next c s
  have hr := waitingKept_linkReaction.commandReaction
  have hstart (l r u) : WaitingKept u (startUp l r u) := startUp_of_resetBlocks hr l r u ⟨rfl, rfl⟩
  have hwrite (record u) : WaitingKept u (writeCompleted record u) :=
    writeCompleted_of_recordRead hr (fun _ _ => ⟨rfl, rfl⟩) (fun _ _ => ⟨rfl, rfl⟩) record u
  exact ⟨t, ht, hr.exec c s t ht (fun _ => hstart) (fun _ => hwrite)⟩

/-! ## The record in force -/

/-- The record in force and the stored bytes are as they were. -/
def RecordKept (s t : State) : Prop := t.cfg = s.cfg ∧ t.store.bytes = s.store.bytes

theorem recordKept_linkReaction : LinkReaction RecordKept where
  refl _ := ⟨rfl, rfl⟩
  trans h g := ⟨g.1.trans h.1, g.2.trans h.2⟩
  quiet h := ⟨h.cfg, by rw [h.store]⟩
  place st n s := ⟨(place_keeps st n s).cfg, by rw [(place_keeps st n s).store]⟩
  crew _ _ _ _ := ⟨rfl, rfl⟩
  cab _ _ _ := ⟨rfl, rfl⟩
  program _ _ := ⟨rfl, rfl⟩

/-- Settles O4: a command that neither completes a write nor can carry a start-up keeps the record. -/
theorem configurationChangesOnlyByWriteOrStartUp :
    Obligations.ConfigurationChangesOnlyByWriteOrStartUp := by
  intro c s t he hchange
  by_contra hnone
  push Not at hnone
  obtain ⟨hwrite, hpower, hrestart, hraw, hframe⟩ := hnone
  have hstart : ¬ mayStartUp c := by
    rintro (⟨l, hc⟩ | ⟨b, hc⟩ | ⟨body, hc⟩ | ⟨ident, d, hc⟩)
    · exact hpower l hc
    · exact hrestart b hc
    · exact hraw body hc
    · exact hframe ident d hc
  obtain ⟨hcfg, hbytes⟩ := recordKept_linkReaction.commandReaction.exec c s t he
    (fun hc => absurd hc hstart) (fun hc => absurd hc hwrite)
  rcases hchange with hne | hne
  · exact hne hcfg
  · exact hne hbytes

/-! ## The bounds of the notice queues -/

/-- The bounds of the notice queues, where they held. -/
def BoundsKept (s t : State) : Prop := NoticeInv s → NoticeInv t

/-- A change of one crew station's queue within its bound keeps the bounds. -/
theorem noticeInv_modCrew {c : CrewId} {f : Crew → Crew} {s : State} (h : NoticeInv s)
    (hf : (f s.crew[c]).queue.length ≤ crewQueueMax) : NoticeInv (modCrew c f s) := by
  obtain ⟨hcrew, hcab⟩ := h
  refine ⟨fun d => ?_, hcab⟩
  simp only [modCrew_crew, Fin.getElem_fin, upd_get]
  split
  · subst_vars; exact hf
  · exact hcrew d

theorem placeCrew_bounds (c : CrewId) (n : Notice) (s : State) : BoundsKept s (placeCrew c n s) := by
  intro h
  have hc := h.1 c
  unfold placeCrew
  split
  · exact h
  · dsimp only
    split
    · refine noticeInv_modCrew h ?_
      rename_i hlt
      simpa using hlt
    · refine noticeInv_modCrew (s := s) h ?_
      have hmax : 0 < crewQueueMax := by decide
      simp only [List.length_append, List.length_tail, List.length_singleton]
      omega

theorem placeCab_bounds (n : Notice) (s : State) : BoundsKept s (placeCab n s) := by
  intro ⟨hcrew, hcab⟩
  unfold placeCab
  split
  · exact ⟨hcrew, hcab⟩
  · dsimp only
    split
    · exact ⟨hcrew, by simp [cabQueueMax]⟩
    · rename_i oldest rest hq
      split
      · rename_i hlt
        exact ⟨hcrew, by simpa using hlt⟩
      · refine ⟨hcrew, ?_⟩
        rw [hq] at hcab
        simpa [report] using hcab

theorem boundsKept_linkReaction : LinkReaction BoundsKept where
  refl _ h := h
  trans h g hs := g (h hs)
  quiet h hs := by
    unfold NoticeInv
    rw [h.crew, h.cab]
    exact hs
  place st n s := by
    unfold place
    split
    · exact placeCab_bounds n s
    · exact placeCrew_bounds _ n s
  crew c f s hf hs := noticeInv_modCrew hs ((hf _).trans (hs.1 c))
  cab x s hx hs := ⟨hs.1, hx.trans hs.2⟩
  program _ _ hs := hs

/-- A start-up empties every queue (R154, R163). -/
theorem resetBlocks_bounds (l : LineLevels) (r : Option TxRun) (s : State) :
    NoticeInv (resetBlocks l r s) := by
  refine ⟨fun c => ?_, Nat.zero_le _⟩
  simp [resetBlocks, freshCrew]

theorem crewAcross_length (new : StationCfg) (x : Crew) :
    (crewAcross new x).queue.length ≤ x.queue.length := by
  unfold crewAcross
  repeat' split
  all_goals simp

theorem recordRead_bounds (record : List Byte) (s : State) : BoundsKept s (recordRead record s) := by
  rintro ⟨hcrew, hcab⟩
  refine ⟨fun c => le_trans ?_ (hcrew c), hcab⟩
  simpa [recordRead] using crewAcross_length _ _

/-- Settles O6: a notice is placed within the bound, and no other reaction lengthens a queue. -/
theorem stepKeepsNoticeBounds : Obligations.StepKeepsNoticeBounds := by
  intro s t hs he
  have hr := boundsKept_linkReaction.commandReaction
  unfold step at he
  split at he
  · cases he
    exact hs
  · rename_i c rest _
    exact hr.exec c { s with pending := rest } t he
      (fun _ l r u => startUp_of_resetBlocks hr l r u fun _ => resetBlocks_bounds l r u)
      (fun _ record u => writeCompleted_of_recordRead hr (fun _ _ h => h)
        (fun record u => recordRead_bounds record u) record u) hs

end Sys2Proof.Machine
end

section
/-! PROOFS. The flow and the strokes, part by part: what begins and ends a flow, and how an axis comes to
rest (R85 to R87, R109, R113). -/

namespace Sys2Proof.Machine

section Flow
variable (s : State)

theorem startRunOn_eq : startRunOn s = { s with arb := (startRunOn s).arb } := by
  unfold startRunOn; split <;> rfl

@[simp] theorem startRunOn_holder : (startRunOn s).arb.holder = s.arb.holder := by
  unfold startRunOn; split <;> rfl

theorem flowEnds_eq : flowEnds s = { s with arb := (flowEnds s).arb } := by
  unfold flowEnds
  split
  · rw [startRunOn_eq]
  · rfl

@[simp] theorem flowEnds_holder : (flowEnds s).arb.holder = s.arb.holder := by
  unfold flowEnds
  split
  · simp
  · rfl

/-- The end of a flow reads the pump, the supply and the record alone. -/
theorem flowEnds_arb_congr {s t : State} (ha : t.arb = s.arb) (hs : t.sup.supply = s.sup.supply)
    (hc : t.cfg = s.cfg) : (flowEnds t).arb = (flowEnds s).arb := by
  unfold flowEnds startRunOn runOnInForce
  simp only [ha, hs, hc]
  repeat' split
  all_goals first
    | rfl
    | exact ha

theorem flowBegins_eq : flowBegins s = { s with arb := (flowBegins s).arb } := by
  unfold flowBegins; split <;> rfl

@[simp] theorem flowBegins_holder : (flowBegins s).arb.holder = s.arb.holder := by
  unfold flowBegins; split <;> rfl

end Flow

/-- Without a stroke there is nothing to drop. -/
theorem dropStroke_none {s : State} (h : s.se.stroke = none) : dropStroke s = s := by
  unfold dropStroke; rw [h]

/-- The axis of the stroke comes to rest, the flow ends, and the stroke record is dropped (R109). -/
theorem dropStroke_some {s : State} {k : Stroke} (h : s.se.stroke = some k) :
    dropStroke s = { s with
      arb := (flowEnds s).arb
      se := { drives := upd s.se.drives k.axis fun _ => Drive.rest, stroke := none } } := by
  unfold dropStroke
  rw [h]
  dsimp only
  rw [flowEnds_eq, flowEnds_arb_congr (s := s) (modDrive_arb s k.axis _) (by rw [modDrive_sup])
    (modDrive_cfg s k.axis _)]
  rfl

section Drop
variable (s : State)

theorem dropStroke_eq : dropStroke s = { s with arb := (dropStroke s).arb, se := (dropStroke s).se } := by
  cases h : s.se.stroke with
  | none => rw [dropStroke_none h]
  | some k => rw [dropStroke_some h]

@[simp] theorem dropStroke_sm : (dropStroke s).sm = s.sm := by rw [dropStroke_eq]
@[simp] theorem dropStroke_loop : (dropStroke s).loop = s.loop := by rw [dropStroke_eq]
@[simp] theorem dropStroke_sensors : (dropStroke s).sensors = s.sensors := by rw [dropStroke_eq]
@[simp] theorem dropStroke_slot (i : SlotId) : (dropStroke s).slot i = s.slot i :=
  slot_congr (by rw [dropStroke_sm]) i

theorem dropStroke_notices : SameNotices s (dropStroke s) := by rw [dropStroke_eq]; exact ⟨rfl, rfl⟩

@[simp] theorem dropStroke_holder : (dropStroke s).arb.holder = s.arb.holder := by
  cases h : s.se.stroke with
  | none => rw [dropStroke_none h]
  | some k => rw [dropStroke_some h]; exact flowEnds_holder s

@[simp] theorem dropStroke_stroke : (dropStroke s).se.stroke = none := by
  cases h : s.se.stroke with
  | none => rw [dropStroke_none h, h]
  | some k => rw [dropStroke_some h]

end Drop

end Sys2Proof.Machine
end

section
/-! PROOFS. The slots, the grant, the strokes and the owners: every reaction keeps the agreement of the
queue, the grant, the stroke, the dwell timers, the drives and the loop with the Slot Table (R21, R23, R74,
R97, R104, R49), and the two laws of owners (R17). An operation on a slot takes it out of every table
(`Working`), and puts it back where its new state belongs. -/

namespace Sys2Proof.Machine

/-! ## The owners -/

/-- A slot that is not FREE was not FREE before, with the same owner and the same block. -/
def TagsKept (s t : State) : Prop :=
  ∀ j, (t.slot j).state ≠ .free → (s.slot j).state ≠ .free
    ∧ (t.slot j).owner = (s.slot j).owner ∧ (t.slot j).block = (s.slot j).block

theorem TagsKept.of_sm {s t : State} (h : t.sm = s.sm) : TagsKept s t := by
  intro j hj
  have hslot : t.slot j = s.slot j := slot_congr (by rw [h]) j
  rw [hslot] at hj ⊢
  exact ⟨hj, rfl, rfl⟩

theorem TagsKept.trans {s t u : State} (h : TagsKept s t) (g : TagsKept t u) : TagsKept s u := by
  intro j hj
  obtain ⟨ht, howner, hblock⟩ := g j hj
  obtain ⟨hs, howner', hblock'⟩ := h j ht
  exact ⟨hs, howner.trans howner', hblock.trans hblock'⟩

theorem TagsKept.modSlot {i : SlotId} {f : Slot → Slot} {s : State}
    (hf : (f (s.slot i)).state ≠ .free → (s.slot i).state ≠ .free
      ∧ (f (s.slot i)).owner = (s.slot i).owner ∧ (f (s.slot i)).block = (s.slot i).block) :
    TagsKept s (modSlot i f s) := by
  intro j hj
  by_cases hij : i = j
  · subst hij
    rw [slot_modSlot_same] at hj ⊢
    exact hf hj
  · rw [slot_modSlot_ne f s hij] at hj ⊢
    exact ⟨hj, rfl, rfl⟩

/-- The laws of owners speak of the non-FREE slots, their owners and their Tags (R17). -/
theorem ownerInv_of_tagsKept {s t : State} (h : TagsKept s t) (hs : OwnerInv s) : OwnerInv t := by
  obtain ⟨hcount, htag⟩ := hs
  refine ⟨fun st => le_trans ?_ (hcount st), fun i j hi hj howner hblock => ?_⟩
  · unfold ownedCount
    rw [← List.countP_eq_length_filter, ← List.countP_eq_length_filter]
    refine List.countP_mono_left fun i _ hi => ?_
    simp only [Bool.and_eq_true, bne_iff_ne, beq_iff_eq] at hi ⊢
    obtain ⟨hlive, how, -⟩ := h i hi.1
    exact ⟨hlive, how ▸ hi.2⟩
  · obtain ⟨hi', howi, hbi⟩ := h i hi
    obtain ⟨hj', howj, hbj⟩ := h j hj
    exact htag i j hi' hj' (by rw [← howi, ← howj, howner]) (by rw [← hbi, ← hbj, hblock])

/-! ## The invariant by its parts -/

/-- The tables agree with every slot but `i`, and the drives with the stroke. -/
structure Elsewhere (i : SlotId) (s : State) : Prop where
  nodup : s.sm.queue.Nodup
  queue : ∀ j, j ≠ i → (j ∈ s.sm.queue ↔ (s.slot j).state = .queued)
  holder : ∀ j, j ≠ i →
    (s.arb.holder = some j ↔ ((s.slot j).state = .active ∨ (s.slot j).state = .stopping))
  dwell : ∀ j, j ≠ i → (s.slot j).dwellT.isSome = true → (s.slot j).state = .dwelling
  drive : DriveInv s

/-- The tables agree with every slot, and the drives with the stroke. -/
structure Tables (s : State) : Prop where
  queue : QueueInv s
  holder : ∀ j, s.arb.holder = some j ↔ ((s.slot j).state = .active ∨ (s.slot j).state = .stopping)
  dwell : DwellInv s
  drive : DriveInv s

theorem Tables.elsewhere {s : State} (h : Tables s) (i : SlotId) : Elsewhere i s :=
  ⟨h.queue.1, fun j _ => h.queue.2 j, fun j _ => h.holder j, fun j _ => h.dwell j, h.drive⟩

theorem motionInv_iff (s : State) :
    MotionInv s ↔ Tables s ∧ s.se.stroke.map (·.slot) = s.arb.holder ∧ LoopInv s :=
  ⟨fun ⟨hq, ⟨hh, hk⟩, hw, hd, hl⟩ => ⟨⟨hq, hh, hw, hd⟩, hk, hl⟩,
    fun ⟨⟨hq, hh, hw, hd⟩, hk, hl⟩ => ⟨hq, ⟨hh, hk⟩, hw, hd, hl⟩⟩

/-- The invariant reads the slots, the queue, the holder, the strokes and the loop. -/
theorem MotionInv.congr {s t : State} (h : MotionInv s) (hsm : t.sm = s.sm)
    (hh : t.arb.holder = s.arb.holder) (hse : t.se = s.se) (hl : t.loop = s.loop) : MotionInv t := by
  have hslot (j : SlotId) : t.slot j = s.slot j := slot_congr (by rw [hsm]) j
  simp only [MotionInv, QueueInv, GrantInv, DwellInv, DriveInv, LoopInv, hslot, hsm, hh, hse, hl]
  exact h

section Facts
variable {s : State} (h : MotionInv s)
include h

theorem MotionInv.tables : Tables s := ((motionInv_iff s).mp h).1

theorem MotionInv.stroke_slot : s.se.stroke.map (·.slot) = s.arb.holder := h.2.1.2

theorem MotionInv.mem_queue_iff (i : SlotId) : i ∈ s.sm.queue ↔ (s.slot i).state = .queued :=
  h.1.2 i

theorem MotionInv.holder_iff (i : SlotId) :
    s.arb.holder = some i ↔ ((s.slot i).state = .active ∨ (s.slot i).state = .stopping) := h.2.1.1 i

theorem MotionInv.dwellT_none {i : SlotId} (hi : (s.slot i).state ≠ .dwelling) :
    (s.slot i).dwellT = none := by
  by_contra hne
  exact hi (h.2.2.1 i (by simpa [Option.isSome_iff_ne_none] using hne))

/-- While some slot is neither FREE nor COMPLETED the loop is READY (R49). -/
theorem MotionInv.loop_ready {i : SlotId} (hf : (s.slot i).state ≠ .free)
    (hc : (s.slot i).state ≠ .completed) : s.loop.state = .ready := by
  by_contra hl
  rcases h.2.2.2.2.1 hl i with h' | h'
  · exact hf h'
  · exact hc h'

theorem MotionInv.discT_none (hl : s.loop.state ≠ .tripped) : s.loop.discT = none := by
  by_contra hne
  exact hl (h.2.2.2.2.2 (by simpa [Option.isSome_iff_ne_none] using hne))

/-- The running stroke is its holder's (R97). -/
theorem MotionInv.holder_of_stroke {k : Stroke} (hk : s.se.stroke = some k) :
    s.arb.holder = some k.slot := by rw [← h.stroke_slot, hk]; rfl

theorem MotionInv.stroke_of_holder {i : SlotId} (hi : s.arb.holder = some i) :
    ∃ k, s.se.stroke = some k ∧ k.slot = i := by
  have hs := h.stroke_slot
  rw [hi] at hs
  exact Option.map_eq_some_iff.mp hs

theorem MotionInv.stroke_none (hi : s.arb.holder = none) : s.se.stroke = none := by
  have hs := h.stroke_slot
  rw [hi] at hs
  exact Option.map_eq_none_iff.mp hs

end Facts

/-! ## A slot under way -/

/-- A non-FREE slot that stands in no table while an operation moves it: neither in the queue nor the holder,
its dwell timer stopped; every other slot agrees with the tables, and the loop is READY. -/
structure Working (i : SlotId) (s : State) : Prop extends Elsewhere i s where
  live : (s.slot i).state ≠ .free
  apart : i ∉ s.sm.queue
  released : s.arb.holder ≠ some i
  timer : (s.slot i).dwellT = none
  stroke : s.se.stroke.map (·.slot) = s.arb.holder
  ready : s.loop.state = .ready
  discT : s.loop.discT = none

/-- The invariant holds after an operation, and every non-FREE slot is that of before it. -/
def Lawful (s t : State) : Prop := MotionInv t ∧ TagsKept s t

theorem Lawful.of_tags {s t u : State} (h : TagsKept s t) (g : Lawful t u) : Lawful s u :=
  ⟨g.1, h.trans g.2⟩

theorem Elsewhere.congr {i : SlotId} {s t : State} (h : Elsewhere i s)
    (hslot : ∀ j, j ≠ i → t.slot j = s.slot j) (hq : t.sm.queue = s.sm.queue)
    (hh : t.arb.holder = s.arb.holder) (hse : t.se = s.se) : Elsewhere i t where
  nodup := hq ▸ h.nodup
  queue j hj := by rw [hslot j hj, hq]; exact h.queue j hj
  holder j hj := by rw [hslot j hj, hh]; exact h.holder j hj
  dwell j hj := by rw [hslot j hj]; exact h.dwell j hj
  drive := by unfold DriveInv; rw [hse]; exact h.drive

theorem Working.place {i : SlotId} {s : State} (h : Working i s) (st : StationId) (n : Notice) :
    Working i (place st n s) where
  toElsewhere := h.toElsewhere.congr (by simp) (by simp) (by simp) (by simp)
  live := by simpa using h.live
  apart := by simpa using h.apart
  released := by simpa using h.released
  timer := by simpa using h.timer
  stroke := by simpa using h.stroke
  ready := by simpa using h.ready
  discT := by simpa using h.discT

theorem Working.modSlot {i : SlotId} {s : State} (h : Working i s) {f : Slot → Slot}
    (hlive : (f (s.slot i)).state ≠ .free) (ht : (f (s.slot i)).dwellT = none) :
    Working i (modSlot i f s) where
  toElsewhere := h.toElsewhere.congr (fun j hj => slot_modSlot_ne f s (Ne.symm hj)) rfl rfl rfl
  live := by rw [slot_modSlot_same]; exact hlive
  apart := h.apart
  released := h.released
  timer := by rw [slot_modSlot_same]; exact ht
  stroke := h.stroke
  ready := h.ready
  discT := h.discT

/-- The slot comes to rest outside the queue and the grant. -/
theorem Working.rests {i : SlotId} {s : State} (h : Working i s) {f : Slot → Slot}
    (hstate : (f (s.slot i)).state = .paused ∨ (f (s.slot i)).state = .dwelling)
    (ht : (f (s.slot i)).dwellT.isSome = true → (f (s.slot i)).state = .dwelling) :
    MotionInv (Machine.modSlot i f s) := by
  have hother (j : SlotId) (hj : j ≠ i) : (Machine.modSlot i f s).slot j = s.slot j :=
    slot_modSlot_ne f s (Ne.symm hj)
  have hself := slot_modSlot_same i f s
  refine (motionInv_iff _).mpr ⟨⟨⟨h.nodup, fun j => ?_⟩, fun j => ?_, fun j hj => ?_, h.drive⟩, h.stroke,
    fun hl => absurd h.ready hl, fun hd => ?_⟩
  · by_cases hji : j = i
    · subst hji
      rw [hself]
      have hne : (f (s.slot j)).state ≠ .queued := by rcases hstate with h' | h' <;> simp [h']
      exact ⟨fun hmem => absurd hmem h.apart, fun hst => absurd hst hne⟩
    · rw [hother j hji]; exact h.queue j hji
  · by_cases hji : j = i
    · subst hji
      rw [hself]
      have hne : ¬ ((f (s.slot j)).state = .active ∨ (f (s.slot j)).state = .stopping) := by
        rcases hstate with h' | h' <;> simp [h']
      exact ⟨fun hmem => absurd hmem h.released, fun hst => absurd hst hne⟩
    · rw [hother j hji]; exact h.holder j hji
  · by_cases hji : j = i
    · subst hji
      rw [hself] at hj ⊢
      exact ht hj
    · rw [hother j hji] at hj ⊢; exact h.dwell j hji hj
  · simp [h.discT] at hd

theorem Working.enqueue {i : SlotId} {s : State} (h : Working i s) (front : Bool) :
    Lawful s (enqueue front i s) := by
  have hmem (j : SlotId) : j ∈ (Machine.enqueue front i s).sm.queue ↔ j = i ∨ j ∈ s.sm.queue := by
    unfold Machine.enqueue
    cases front
    · simp [or_comm]
    · simp [SlotReaction.mem_insertFront]
  have hother (j : SlotId) (hj : j ≠ i) : (Machine.enqueue front i s).slot j = s.slot j :=
    slot_modSlot_ne _ _ (Ne.symm hj)
  have hself : (Machine.enqueue front i s).slot i
      = { s.slot i with state := .queued, pauseCause := none } := slot_modSlot_same i _ _
  have hnodup : (Machine.enqueue front i s).sm.queue.Nodup := by
    show (if front then insertFront s i s.sm.queue else s.sm.queue ++ [i]).Nodup
    split
    · have hins : ∀ q : List SlotId, q.Nodup → i ∉ q → (insertFront s i q).Nodup := by
        intro q hq hi
        induction q with
        | nil => simp [insertFront]
        | cons x q ih =>
          obtain ⟨hx, hq'⟩ := List.nodup_cons.mp hq
          simp only [List.mem_cons, not_or] at hi
          unfold insertFront
          split
          · exact List.nodup_cons.mpr ⟨by simp [hi.1, hi.2], hq⟩
          · refine List.nodup_cons.mpr ⟨?_, ih hq' hi.2⟩
            rw [SlotReaction.mem_insertFront]
            rintro (h' | h')
            · exact hi.1 h'.symm
            · exact hx h'
      exact hins _ h.nodup h.apart
    · exact List.nodup_append.mpr ⟨h.nodup, by simp, by
        intro a ha b hb
        obtain rfl : b = i := by simpa using hb
        rintro rfl
        exact h.apart ha⟩
  refine ⟨(motionInv_iff _).mpr ⟨⟨⟨hnodup, fun j => ?_⟩, fun j => ?_, fun j hj => ?_, h.drive⟩, h.stroke,
    fun hl => absurd h.ready hl, fun hd => ?_⟩, ?_⟩
  · rw [hmem]
    by_cases hji : j = i
    · subst hji; simp [hself]
    · rw [hother j hji]; simp [hji, h.queue j hji]
  · by_cases hji : j = i
    · subst hji
      rw [hself]
      exact ⟨fun hh => absurd hh h.released, by rintro (h' | h') <;> cases h'⟩
    · rw [hother j hji]; exact h.holder j hji
  · by_cases hji : j = i
    · subst hji
      rw [hself] at hj
      simp [h.timer] at hj
    · rw [hother j hji] at hj ⊢; exact h.dwell j hji hj
  · have hd' : s.loop.discT.isSome = true := hd
    simp [h.discT] at hd'
  · exact TagsKept.trans (t := Machine.setQueue _ s) (fun j hj => ⟨hj, rfl, rfl⟩)
      (.modSlot fun _ => ⟨h.live, rfl, rfl⟩)

/-! ## The end of a sequence -/

/-- After the end of a sequence the tables agree with every slot. -/
theorem Elsewhere.seqEnd {i : SlotId} {s : State} (h : Elsewhere i s) (c : EndCause)
    (w : Option WaitReason) : Tables (seqEnd i c w s) := by
  have hother (j : SlotId) (hj : j ≠ i) := seqEnd_slot_ne i c w s hj
  have hself := seqEnd_state i c w s
  have htimer : ((Machine.seqEnd i c w s).slot i).dwellT = none := by
    rw [seqEnd_slot_same, endedRecord]
    split <;> rfl
  refine ⟨⟨?_, fun j => ?_⟩, fun j => ?_, fun j hj => ?_, ?_⟩
  · rw [seqEnd_queue]; exact h.nodup.filter _
  · rw [seqEnd_queue]
    by_cases hji : j = i
    · subst hji
      rcases hself with h' | h' <;> simp [h']
    · rw [hother j hji]; simp [hji, h.queue j hji]
  · rw [seqEnd_arb]
    by_cases hji : j = i
    · subst hji
      rcases hself with h' | h' <;> simp [h']
    · rw [hother j hji, ← h.holder j hji]
      by_cases hi : s.arb.holder = some i
      · simp [hi, Ne.symm hji]
      · simp [hi]
  · by_cases hji : j = i
    · subst hji
      simp [htimer] at hj
    · rw [hother j hji] at hj ⊢; exact h.dwell j hji hj
  · unfold DriveInv
    rw [seqEnd_se]
    exact h.drive

theorem seqEnd_tags {i : SlotId} {s : State} (hlive : (s.slot i).state ≠ .free) (c : EndCause)
    (w : Option WaitReason) : TagsKept s (seqEnd i c w s) := by
  intro j hj
  by_cases hji : j = i
  · subst hji
    rw [seqEnd_slot_same] at hj ⊢
    unfold endedRecord at hj ⊢
    split at hj
    · exact absurd rfl hj
    · rename_i hrep
      rw [if_neg hrep]
      exact ⟨hlive, endingSlot_owner j s, endingSlot_block j s⟩
  · rw [seqEnd_slot_ne i c w s hji] at hj ⊢
    exact ⟨hj, rfl, rfl⟩

@[simp] theorem seqEnd_loop (i : SlotId) (c : EndCause) (w : Option WaitReason) (s : State) :
    (seqEnd i c w s).loop = s.loop := (seqEnd_keeps i c w s).loop

/-- The sequence of a slot ends while the loop is READY, its stroke at rest. -/
theorem Elsewhere.seqEnd_lawful {i : SlotId} {s : State} (h : Elsewhere i s)
    (hlive : (s.slot i).state ≠ .free) (hready : s.loop.state = .ready) (hdisc : s.loop.discT = none)
    (hstroke : s.se.stroke.map (·.slot) = if s.arb.holder = some i then none else s.arb.holder)
    (c : EndCause) (w : Option WaitReason) : Lawful s (Machine.seqEnd i c w s) := by
  refine ⟨(motionInv_iff _).mpr ⟨h.seqEnd c w, ?_, fun hl => ?_, fun hd => ?_⟩, seqEnd_tags hlive c w⟩
  · rw [seqEnd_se, seqEnd_arb]; exact hstroke
  · rw [seqEnd_loop] at hl; exact absurd hready hl
  · rw [seqEnd_loop] at hd; simp [hdisc] at hd

theorem Working.seqEnd {i : SlotId} {s : State} (h : Working i s) (c : EndCause)
    (w : Option WaitReason) : Lawful s (seqEnd i c w s) :=
  h.toElsewhere.seqEnd_lawful h.live h.ready h.discT (by rw [if_neg h.released]; exact h.stroke) c w

/-! ## Steps -/

theorem TagsKept.place (st : StationId) (n : Notice) (s : State) : TagsKept s (place st n s) :=
  .of_sm (place_sm st n s)

theorem Lawful.place {s t : State} (h : Lawful s t) (st : StationId) (n : Notice) :
    Lawful s (place st n t) :=
  ⟨h.1.congr (by simp) (by simp) (by simp) (by simp), h.2.trans (.place st n t)⟩

theorem Working.pauseSlot {i : SlotId} {s : State} (h : Working i s) (c : PauseCause) :
    Lawful s (pauseSlot i c s) := by
  have hpaused : Lawful s (Machine.modSlot i
      (fun x => { x with state := .paused, pauseCause := some c, ownerLost := false }) s) :=
    ⟨h.rests (.inl rfl) fun ht => by simp [h.timer] at ht, .modSlot fun _ => ⟨h.live, rfl, rfl⟩⟩
  unfold Machine.pauseSlot pausedNotice progress
  dsimp only
  repeat' split
  · exact hpaused.place _ _
  · exact hpaused.place _ _
  · exact (hpaused.place _ _).place _ _

theorem Working.strand {i : SlotId} {s : State} (h : Working i s) : Lawful s (strand i s) :=
  ⟨h.rests (.inl rfl) fun ht => by simp [h.timer] at ht, .modSlot fun _ => ⟨h.live, rfl, rfl⟩⟩

section Steps
variable {i : SlotId} {next : SlotId → Bool → State → State}
  (hn : ∀ b s, Working i s → Lawful s (next i b s))
include hn

theorem Working.passEnd {s : State} (h : Working i s) : Lawful s (passEnd next i s) := by
  have hcount := h.modSlot (f := fun x => { x with passCount := satInc 65535 x.passCount }) h.live h.timer
  refine Lawful.of_tags (.modSlot fun _ => ⟨h.live, rfl, rfl⟩) (t := Machine.modSlot i
    (fun x => { x with passCount := satInc 65535 x.passCount }) s) ?_
  unfold Machine.passEnd
  dsimp only
  split
  · exact hcount.seqEnd _ _
  · have hflag := hcount.modSlot (f := fun x => { x with flag := true }) hcount.live hcount.timer
    refine Lawful.of_tags (.modSlot fun _ => ⟨hcount.live, rfl, rfl⟩) (t := Machine.modSlot i
      (fun x => { x with flag := true }) (Machine.modSlot i _ s)) ?_
    generalize Machine.modSlot i (fun x => { x with flag := true }) (Machine.modSlot i
      (fun x => { x with passCount := satInc 65535 x.passCount }) s) = v at hflag ⊢
    have hnext (st : StationId) (n : Notice) : Lawful v (next i false
        (Machine.modSlot i (fun x => { x with step := 1 }) (Machine.place st n v))) :=
      have htold := hflag.place st n
      .of_tags (.place st n v) (.of_tags (.modSlot fun _ => ⟨htold.live, rfl, rfl⟩)
        (hn _ _ (htold.modSlot htold.live htold.timer)))
    exact hnext _ _

theorem Working.completeStep {s : State} (h : Working i s) : Lawful s (completeStep next i s) := by
  unfold Machine.completeStep
  split
  · exact Lawful.of_tags (.modSlot fun _ => ⟨h.live, rfl, rfl⟩) (hn _ _ (h.modSlot h.live h.timer))
  · split
    · exact h.passEnd hn
    · exact Lawful.of_tags (.modSlot fun _ => ⟨h.live, rfl, rfl⟩)
        ((h.modSlot h.live h.timer).seqEnd _ _)

theorem Working.startStep {s : State} (h : Working i s) (chained : Bool) :
    Lawful s (startStep next i chained s) := by
  unfold Machine.startStep
  split
  · exact h.strand
  · rename_i st _
    have htold : Working i (if st.notify then progress (s.slot i).owner i .stepStarted s else s)
        ∧ TagsKept s (if st.notify then progress (s.slot i).owner i .stepStarted s else s) := by
      split
      · exact ⟨h.place _ _, .place _ _ _⟩
      · exact ⟨h, .of_sm rfl⟩
    dsimp only
    generalize (if st.notify then progress (s.slot i).owner i .stepStarted s else s) = u at htold ⊢
    obtain ⟨hu, htags⟩ := htold
    refine Lawful.of_tags htags ?_
    split
    · exact hu.enqueue _
    · exact ⟨hu.rests (.inr rfl) fun _ => rfl, .modSlot fun _ => ⟨hu.live, rfl, rfl⟩⟩
    · split
      · exact hu.completeStep hn
      · exact hu.seqEnd _ _

end Steps

theorem Working.becomeCurrent {i : SlotId} (n : Nat) :
    ∀ (chained : Bool) (s : State), Working i s → Lawful s (becomeCurrent n i chained s) := by
  induction n with
  | zero => exact fun _ _ h => h.strand
  | succ n ih =>
    intro chained s h
    unfold Machine.becomeCurrent
    have hclear := h.modSlot (f := fun x => { x with interrupted := false }) h.live h.timer
    refine Lawful.of_tags (.modSlot fun _ => ⟨h.live, rfl, rfl⟩)
      (t := Machine.modSlot i (fun x => { x with interrupted := false }) s) ?_
    dsimp only
    split
    · exact hclear.pauseSlot _
    · split
      · exact hclear.pauseSlot _
      · exact hclear.startStep ih _

theorem Working.stepDone {i : SlotId} {s : State} (h : Working i s) : Lawful s (stepDone i s) :=
  h.completeStep (Working.becomeCurrent _)

end Sys2Proof.Machine
end

section
/-! PROOFS. The reactions of the strokes, the grant, the zones, the links and the loop keep the agreement of
the tables and the laws of owners; the two statements that every step keeps them. -/

namespace Sys2Proof.Machine

/-- From a state that meets the invariant, to one that does and whose slots are those of before. -/
def LawfulStep (s t : State) : Prop := MotionInv s → Lawful s t

namespace LawfulStep

theorem refl (s : State) : LawfulStep s s := fun h => ⟨h, .of_sm rfl⟩

theorem trans {s t u : State} (h : LawfulStep s t) (g : LawfulStep t u) : LawfulStep s u :=
  fun hs => (g (h hs).1).of_tags (h hs).2

/-- A change beside the slots, the holder, the strokes and the loop. -/
theorem beside {s t : State} (hsm : t.sm = s.sm) (hh : t.arb.holder = s.arb.holder) (hse : t.se = s.se)
    (hl : t.loop = s.loop) : LawfulStep s t := fun h => ⟨h.congr hsm hh hse hl, .of_sm hsm⟩

theorem place (st : StationId) (n : Notice) (s : State) : LawfulStep s (place st n s) :=
  beside (by simp) (by simp) (by simp) (by simp)

theorem foldl {α : Type} {f : State → α → State} (hf : ∀ s x, LawfulStep s (f s x)) (l : List α)
    (s : State) : LawfulStep s (l.foldl f s) := by
  induction l generalizing s with
  | nil => exact refl s
  | cons x l ih => exact trans (hf s x) (ih (f s x))

/-- A change of a slot's record that no table reads. -/
theorem modSlot (i : SlotId) {f : Slot → Slot} (s : State)
    (hf : ∀ x, (f x).state = x.state ∧ (f x).dwellT = x.dwellT ∧ (f x).owner = x.owner
      ∧ (f x).block = x.block) : LawfulStep s (modSlot i f s) := by
  intro h
  have hread (j : SlotId) : ((Machine.modSlot i f s).slot j).state = (s.slot j).state
      ∧ ((Machine.modSlot i f s).slot j).dwellT = (s.slot j).dwellT := by
    rw [slot_modSlot]
    split
    · exact ⟨(hf _).1, (hf _).2.1⟩
    · exact ⟨rfl, rfl⟩
  refine ⟨?_, .modSlot fun hlive => ?_⟩
  · obtain ⟨hq, hg, hw, hd, hl⟩ := h
    refine ⟨⟨hq.1, fun j => ?_⟩, ⟨fun j => ?_, hg.2⟩, fun j hj => ?_, hd, fun hne j => ?_, hl.2⟩
    · rw [(hread j).1]; exact hq.2 j
    · rw [(hread j).1]; exact hg.1 j
    · rw [(hread j).1]; exact hw j (by rwa [(hread j).2] at hj)
    · rw [(hread j).1]; exact hl.1 hne j
  · obtain ⟨hstate, -, howner, hblock⟩ := hf (s.slot i)
    exact ⟨hstate ▸ hlive, howner, hblock⟩

/-- Another stroke record on the same slot and axis. -/
theorem stroke {k k' : Stroke} {s : State} (hk : s.se.stroke = some k) (hs : k'.slot = k.slot)
    (ha : k'.axis = k.axis) : LawfulStep s (setStroke (some k') s) := by
  intro h
  refine ⟨(motionInv_iff _).mpr ⟨⟨h.1, h.2.1.1, h.2.2.1, fun a hne => ?_⟩, ?_, h.2.2.2.2⟩, .of_sm rfl⟩
  · refine h.2.2.2.1 a fun x hx => ?_
    rw [hk] at hx
    cases hx
    rw [← ha]
    exact hne k' rfl
  · exact (congrArg some hs).trans (h.holder_of_stroke hk).symm

/-- The axis of the running stroke is driven. -/
theorem drive {k : Stroke} {s : State} (hk : s.se.stroke = some k) (f : Drive → Drive) :
    LawfulStep s (modDrive k.axis f s) := by
  intro h
  refine ⟨(motionInv_iff _).mpr ⟨⟨h.1, h.2.1.1, h.2.2.1, fun a hne => ?_⟩, h.2.1.2, h.2.2.2.2⟩,
    .of_sm rfl⟩
  have hka : k.axis ≠ a := hne k hk
  simp only [modDrive_se, Fin.getElem_fin, upd_ne _ f hka]
  exact h.2.2.2.1 a hne

end LawfulStep

/-! ## Ends of waiting slots and of strokes -/

/-- A slot that neither holds the grant nor is FREE or COMPLETED ends its sequence. -/
theorem seqEnd_lawfulStep {i : SlotId} {s : State} (hstate : (s.slot i).state = .queued
      ∨ (s.slot i).state = .paused ∨ (s.slot i).state = .dwelling) (c : EndCause)
    (w : Option WaitReason) : LawfulStep s (seqEnd i c w s) := by
  intro h
  have hlive : (s.slot i).state ≠ .free := by rcases hstate with h' | h' | h' <;> simp [h']
  have hready := h.loop_ready hlive (by rcases hstate with h' | h' | h' <;> simp [h'])
  have hheld : s.arb.holder ≠ some i := by
    rw [Ne, h.holder_iff]
    rcases hstate with h' | h' | h' <;> simp [h']
  exact (h.tables.elsewhere i).seqEnd_lawful hlive hready (h.discT_none (by simp [hready]))
    (by rw [if_neg hheld]; exact h.stroke_slot) c w

/-- The holder's slot, its stroke dropped: the grant still stands, and every drive is at rest. -/
theorem dropStroke_elsewhere {s : State} (h : MotionInv s) (i : SlotId) : Elsewhere i (dropStroke s) := by
  refine { (h.tables.elsewhere i).congr (t := { dropStroke s with se := s.se }) (fun j _ =>
    dropStroke_slot s j) (by simp) (by simp) rfl with drive := fun a _ => ?_ }
  cases hk : s.se.stroke with
  | none =>
    rw [dropStroke_none hk]
    exact h.2.2.2.1 a (by simp [hk])
  | some k =>
    rw [dropStroke_some hk]
    by_cases hka : k.axis = a
    · subst hka; simp
    · simp only [Fin.getElem_fin, upd_ne _ _ hka]
      refine h.2.2.2.1 a fun x hx => ?_
      rw [hk] at hx
      cases hx
      exact hka

section Holder
variable {i : SlotId} {s : State} (h : MotionInv s) (hi : s.arb.holder = some i)
include h hi

theorem holder_state : (s.slot i).state = .active ∨ (s.slot i).state = .stopping :=
  (h.holder_iff i).mp hi

theorem holder_live : (s.slot i).state ≠ .free := by
  rcases holder_state h hi with h' | h' <;> simp [h']

theorem holder_ready : s.loop.state = .ready :=
  h.loop_ready (holder_live h hi) (by rcases holder_state h hi with h' | h' <;> simp [h'])

theorem holder_discT : s.loop.discT = none := h.discT_none (by simp [holder_ready h hi])

theorem holder_timer : (s.slot i).dwellT = none :=
  h.dwellT_none (by rcases holder_state h hi with h' | h' <;> simp [h'])

theorem holder_apart : i ∉ s.sm.queue := by
  rw [h.mem_queue_iff]
  rcases holder_state h hi with h' | h' <;> simp [h']

/-- The holder's stroke is dropped and its grant released: the slot stands in no table. -/
theorem released_working : Working i (releaseGrant i (dropStroke s)) where
  toElsewhere := by
    have helse := dropStroke_elsewhere h i
    refine ⟨by simpa using helse.nodup, fun j hj => ?_, fun j hj => ?_, fun j hj => ?_, ?_⟩
    · rw [releaseGrant_queue, releaseGrant_slot_ne _ _ hj]; exact helse.queue j hj
    · rw [releaseGrant_slot_ne _ _ hj, ← helse.holder j hj]
      simp [hi, Ne.symm hj]
    · rw [releaseGrant_slot_ne _ _ hj]; exact helse.dwell j hj
    · unfold DriveInv
      rw [releaseGrant_se]
      exact helse.drive
  live := by
    rw [releaseGrant_slot_same]
    have hlive := holder_live h hi
    split <;> simpa [withLastMove]
  apart := by simpa using holder_apart h hi
  released := releaseGrant_holder_ne i _
  timer := by
    rw [releaseGrant_slot_same]
    have htimer := holder_timer h hi
    split <;> simpa [withLastMove]
  stroke := by simp [hi]
  ready := by
    rw [releaseGrant_eq]
    simpa using holder_ready h hi
  discT := by
    rw [releaseGrant_eq]
    simpa using holder_discT h hi

theorem released_tags : TagsKept s (releaseGrant i (dropStroke s)) := by
  refine .trans (t := dropStroke s) (.of_sm (dropStroke_sm s)) fun j hj => ?_
  by_cases hji : j = i
  · subst hji
    rw [releaseGrant_slot_same] at hj ⊢
    split <;> exact ⟨by simpa using holder_live h hi, rfl, rfl⟩
  · rw [releaseGrant_slot_ne _ _ hji] at hj ⊢
    exact ⟨hj, rfl, rfl⟩

theorem strokeEnds_lawful (e : StrokeEnd) : Lawful s (strokeEnds i e s) := by
  have hwork := released_working h hi
  have htags := released_tags h hi
  unfold strokeEnds
  dsimp only
  split
  · exact .of_tags htags hwork.stepDone
  · split
    · exact .of_tags htags (.of_tags (.modSlot fun _ => ⟨hwork.live, rfl, rfl⟩)
        (hwork.modSlot hwork.live hwork.timer).stepDone)
    · refine .of_tags (.of_sm (dropStroke_sm s)) ?_
      exact (dropStroke_elsewhere h i).seqEnd_lawful (by simpa using holder_live h hi)
        (by simpa using holder_ready h hi) (by simpa using holder_discT h hi) (by simp [hi]) _ _

end Holder

theorem stopEnds_lawfulStep {k : Stroke} {s : State} (hk : s.se.stroke.map (·.slot) = some k.slot) :
    LawfulStep s (stopEnds k s) := by
  intro h
  have hi : s.arb.holder = some k.slot := h.stroke_slot ▸ hk
  have hwork := released_working h hi
  refine .of_tags (released_tags h hi) ?_
  unfold stopEnds
  dsimp only
  split
  · split
    · exact hwork.pauseSlot _
    · exact hwork.enqueue _
  · exact hwork.seqEnd _ _

/-- The slot of a controlled stop enters STOPPING with the grant (R34). -/
theorem stopping_lawfulStep {i : SlotId} {o : StopOutcome} {s : State}
    (ha : (s.slot i).state = .active) : LawfulStep s (modSlot i (fixOutcome o) s) := by
  intro h
  have hfix (x : Slot) : (fixOutcome o x).state = .stopping ∧ (fixOutcome o x).dwellT = x.dwellT
      ∧ (fixOutcome o x).owner = x.owner ∧ (fixOutcome o x).block = x.block := by
    cases o <;> exact ⟨rfl, rfl, rfl, rfl⟩
  obtain ⟨hstate, htimer, howner, hblock⟩ := hfix (s.slot i)
  have hheld : s.arb.holder = some i := (h.holder_iff i).mpr (.inl ha)
  have hself : (modSlot i (fixOutcome o) s).slot i = fixOutcome o (s.slot i) := slot_modSlot_same ..
  have hother (j : SlotId) (hj : j ≠ i) : (modSlot i (fixOutcome o) s).slot j = s.slot j :=
    slot_modSlot_ne _ _ (Ne.symm hj)
  refine ⟨(motionInv_iff _).mpr ⟨⟨⟨h.1.1, fun j => ?_⟩, fun j => ?_, fun j hj => ?_, h.2.2.2.1⟩, h.2.1.2,
    fun hl => absurd (holder_ready h hheld) hl, h.2.2.2.2.2⟩,
    .modSlot fun _ => ⟨by simp [ha], howner, hblock⟩⟩
  · by_cases hji : j = i
    · subst hji
      rw [hself, hstate]
      exact ⟨fun hmem => absurd hmem (holder_apart (s := s) h hheld), by rintro ⟨⟩⟩
    · rw [hother j hji]; exact h.1.2 j
  · by_cases hji : j = i
    · subst hji
      rw [hself, hstate]
      exact ⟨fun _ => .inr rfl, fun _ => hheld⟩
    · rw [hother j hji]; exact h.2.1.1 j
  · by_cases hji : j = i
    · subst hji
      rw [hself, htimer, holder_timer h hheld] at hj
      cases hj
    · rw [hother j hji] at hj ⊢; exact h.2.2.1 j hj

/-- The state in which a controlled stop of the holder's stroke has begun (R34, R114). -/
def stopBegun (o : StopOutcome) (k : Stroke) (s : State) : State :=
  setStroke (some (stoppingStroke s k)) (modDrive k.axis (fun x => { x with solenoid := false })
    (modSlot k.slot (fixOutcome o) s))

/-- A controlled stop of an ACTIVE holder begins, and with Ts at 0 it ends at once (R114). -/
theorem controlledStop_active (o : StopOutcome) {k : Stroke} {s : State}
    (hh : s.arb.holder = some k.slot) (hk : s.se.stroke = some k)
    (ha : (s.slot k.slot).state = .active) :
    controlledStop o s = if (s.axisCfg k.axis).ts = 0
      then stopEnds (stoppingStroke s k) (stopBegun o k s) else stopBegun o k s := by
  unfold controlledStop
  simp only [hh, hk, ha, and_self, if_true]
  rfl

theorem stopBegun_lawfulStep (o : StopOutcome) {k : Stroke} {s : State} (hk : s.se.stroke = some k)
    (ha : (s.slot k.slot).state = .active) : LawfulStep s (stopBegun o k s) :=
  (stopping_lawfulStep ha).trans ((LawfulStep.drive (k := k) (s := modSlot k.slot _ s) hk _).trans
    (LawfulStep.stroke (k := k) (k' := stoppingStroke s k)
      (s := modDrive k.axis _ (modSlot k.slot _ s)) hk rfl rfl))

theorem controlledStop_lawfulStep (o : StopOutcome) (s : State) : LawfulStep s (controlledStop o s) := by
  intro h
  by_cases ha : ∀ i, s.arb.holder = some i → (s.slot i).state ≠ .active
  · rw [controlledStop_idle o ha]; exact LawfulStep.refl s h
  · push Not at ha
    obtain ⟨i, hi, ha⟩ := ha
    obtain ⟨k, hk, rfl⟩ := h.stroke_of_holder hi
    have hbegun := stopBegun_lawfulStep o hk ha
    rw [controlledStop_active o hi hk ha]
    split
    · exact hbegun.trans (stopEnds_lawfulStep rfl) h
    · exact hbegun h

/-! ## The start of a stroke -/

theorem strokeEnds_lawfulStep {k : Stroke} {s : State} (hk : s.se.stroke = some k) (e : StrokeEnd) :
    LawfulStep s (strokeEnds k.slot e s) :=
  fun h => strokeEnds_lawful h (h.holder_of_stroke hk) e

theorem markJoinDropped_lawfulStep (i : SlotId) (s : State) : LawfulStep s (markJoinDropped i s) :=
  .modSlot i s fun _ => ⟨rfl, rfl, rfl, rfl⟩

theorem zeroTravel_lawfulStep {k : Stroke} {s : State} (hk : s.se.stroke = some k) (t : Nat) :
    LawfulStep s (zeroTravel k t s) := by
  unfold zeroTravel
  dsimp only
  split
  · exact (markJoinDropped_lawfulStep k.slot s).trans
      (strokeEnds_lawfulStep (s := markJoinDropped k.slot s) hk _)
  · exact strokeEnds_lawfulStep hk _

theorem beginDriving_lawfulStep {k k' : Stroke} {s : State} (hk : s.se.stroke = some k)
    (hs : k'.slot = k.slot) (ha : k'.axis = k.axis) (p : Nat) :
    LawfulStep s (beginDriving k' p s) := by
  unfold beginDriving
  dsimp only
  rw [ha]
  exact (LawfulStep.drive hk _).trans (LawfulStep.stroke (k := k) hk hs rfl)

theorem beginLatchWait_lawfulStep {k k' : Stroke} {s : State} (hk : s.se.stroke = some k)
    (hs : k'.slot = k.slot) (ha : k'.axis = k.axis) : LawfulStep s (beginLatchWait k' s) := by
  unfold beginLatchWait
  rw [ha]
  exact (LawfulStep.drive hk _).trans (LawfulStep.stroke (k := k) hk hs rfl)

theorem flowBegins_lawfulStep (s : State) : LawfulStep s (flowBegins s) := by
  have heq := flowBegins_eq s
  exact .beside (by rw [heq]) (flowBegins_holder s) (by rw [heq]) (by rw [heq])

theorem flowEnds_lawfulStep (s : State) : LawfulStep s (flowEnds s) := by
  have heq := flowEnds_eq s
  exact .beside (by rw [heq]) (flowEnds_holder s) (by rw [heq]) (by rw [heq])

@[simp] theorem flowEnds_se (s : State) : (flowEnds s).se = s.se := by rw [flowEnds_eq]

theorem strokeStarts_lawfulStep {k : Stroke} {s : State} (hk : s.se.stroke = some k) :
    LawfulStep s (strokeStarts k s) := by
  unfold strokeStarts
  split
  · exact .refl s
  · rename_i st _
    dsimp only
    split
    · exact zeroTravel_lawfulStep hk _
    · have hs := SlotReaction.planStroke_slot s k (s.slot k.slot) st false (s.lastPos k.axis)
      have ha := SlotReaction.planStroke_axis s k (s.slot k.slot) st false (s.lastPos k.axis)
      generalize planStroke s k (s.slot k.slot) st false (s.lastPos k.axis) = k' at hs ha ⊢
      have hmark : LawfulStep s (if k'.join = .dropped then markJoinDropped k'.slot s else s)
          ∧ (if k'.join = .dropped then markJoinDropped k'.slot s else s).se.stroke = some k := by
        split
        · exact ⟨markJoinDropped_lawfulStep _ s, hk⟩
        · exact ⟨.refl s, hk⟩
      generalize (if k'.join = .dropped then markJoinDropped k'.slot s else s) = u at hmark ⊢
      obtain ⟨hu, hk⟩ := hmark
      refine hu.trans (.trans ?_ (flowBegins_lawfulStep _))
      split
      · exact beginLatchWait_lawfulStep hk hs ha
      · exact beginDriving_lawfulStep hk hs ha _

theorem pumpReady_lawfulStep (s : State) : LawfulStep s (pumpReady s) := by
  unfold pumpReady
  split
  · rename_i k hk
    split
    · exact strokeStarts_lawfulStep hk
    · exact .refl s
  · exact .refl s

theorem demandFlow_lawfulStep (s : State) : LawfulStep s (demandFlow s) := by
  unfold demandFlow
  split
  · exact .beside rfl rfl rfl rfl
  · exact pumpReady_lawfulStep s
  · exact .refl s

/-! ## The grant -/

/-- The eligible slot has a step and an axis (R75). -/
theorem step_of_eligible {s : State} {i : SlotId} (h : eligible s i = true) :
    ∃ st a, (s.slot i).curStep = some st ∧ (s.slot i).curAxis = some a := by
  unfold eligible blockReason at h
  simp only [Bool.and_eq_true] at h
  obtain ⟨-, hnone⟩ := h
  split at hnone
  · rename_i st a hst ha
    exact ⟨st, a, hst, ha⟩
  · cases hnone

theorem holder_of_grantChoice {s : State} {i : SlotId} (h : grantChoice s = some i) :
    s.arb.holder = none := by
  unfold grantChoice at h
  split at h
  · cases h
  · assumption

/-- The slot as the grant puts it into ACTIVE, with its stroke (R76, R97). -/
def granted (i : SlotId) (k : Stroke) (s : State) : State :=
  let s := modSlot i (fun x => { x with state := .active, interrupted := false }) (leaveQueue i s)
  setStroke (some k) { s with arb := { s.arb with holder := some i } }

theorem grant_eq {i : SlotId} {s : State} {st : Step} {a : AxisId} (hst : (s.slot i).curStep = some st)
    (ha : (s.slot i).curAxis = some a) :
    grant i s = if near st.target (s.lastPos a) (s.axisCfg a).tb
      then zeroTravel (freshStroke i (s.slot i).step a) st.target
        (granted i (freshStroke i (s.slot i).step a) s)
      else demandFlow (granted i (freshStroke i (s.slot i).step a) s) := by
  have hself : (modSlot i (fun x => { x with state := .active, interrupted := false })
      (leaveQueue i s)).slot i = { s.slot i with state := .active, interrupted := false } := by
    rw [slot_modSlot_same]; rfl
  have hslot (u : State) (h : Option SlotId) :
      State.slot { u with arb := { u.arb with holder := h } } i = u.slot i := rfl
  unfold grant takeUp
  simp only [hslot, hself]
  have hst' : Slot.curStep { s.slot i with state := .active, interrupted := false } = some st := hst
  have ha' : Slot.curAxis { s.slot i with state := .active, interrupted := false } = some a := ha
  simp only [hst', ha']
  rfl

theorem granted_lawfulStep {i : SlotId} {s : State} {k : Stroke} (hq : (s.slot i).state = .queued)
    (hh : s.arb.holder = none) (hk : k.slot = i) : LawfulStep s (granted i k s) := by
  intro h
  have hready := h.loop_ready (i := i) (by simp [hq]) (by simp [hq])
  have hself : (granted i k s).slot i = { s.slot i with state := .active, interrupted := false } :=
    slot_modSlot_same i _ (leaveQueue i s)
  have hother (j : SlotId) (hj : j ≠ i) : (granted i k s).slot j = s.slot j :=
    slot_modSlot_ne _ (leaveQueue i s) (Ne.symm hj)
  have hqueue : (granted i k s).sm.queue = s.sm.queue.filter (· != i) := rfl
  have hholder : (granted i k s).arb.holder = some i := rfl
  refine ⟨(motionInv_iff _).mpr ⟨⟨⟨?_, fun j => ?_⟩, fun j => ?_, fun j hj => ?_, fun a hne => ?_⟩, ?_,
    fun hl => absurd hready hl, h.2.2.2.2.2⟩, ?_⟩
  · rw [hqueue]; exact h.1.1.filter _
  · rw [hqueue]
    by_cases hji : j = i
    · subst hji; simp [hself]
    · rw [hother j hji]; simp [hji, h.1.2 j]
  · rw [hholder]
    by_cases hji : j = i
    · subst hji; simp [hself]
    · rw [hother j hji, ← h.2.1.1 j]; simp [hh, Ne.symm hji]
  · by_cases hji : j = i
    · subst hji
      rw [hself] at hj
      have htimer := h.dwellT_none (i := j) (by simp [hq])
      simp [htimer] at hj
    · rw [hother j hji] at hj ⊢; exact h.2.2.1 j hj
  · exact h.2.2.2.1 a (by simp [h.stroke_none hh])
  · rw [hholder]; exact congrArg some hk
  · exact .trans (t := leaveQueue i s) (fun j hj => ⟨hj, rfl, rfl⟩)
      (.modSlot fun _ => ⟨by simp [hq], rfl, rfl⟩)

theorem grant_lawfulStep {i : SlotId} {s : State} (hi : grantChoice s = some i) :
    LawfulStep s (grant i s) := by
  have helig := eligible_of_grantChoice hi
  obtain ⟨st, a, hst, ha⟩ := step_of_eligible helig
  have hgrant := granted_lawfulStep (k := freshStroke i (s.slot i).step a) (queued_of_eligible helig)
    (holder_of_grantChoice hi) rfl
  rw [grant_eq hst ha]
  split
  · exact hgrant.trans (zeroTravel_lawfulStep rfl _)
  · exact hgrant.trans (demandFlow_lawfulStep _)

/-! ## The closing of a command -/

theorem lawfulStep_closing : Closing LawfulStep where
  refl := .refl
  trans := .trans
  grant _ _ := grant_lawfulStep
  intent _ _ := .beside rfl rfl rfl rfl
  warn _ _ _ := .beside rfl rfl rfl rfl
  beacons _ _ _ := .beside rfl rfl rfl rfl
  sound _ := .beside rfl rfl rfl rfl
  send s := by
    obtain ⟨hsm, harb, hse, -⟩ := sendNext_core s
    exact .beside hsm (by rw [harb]) hse (sendNext_keeps s).loop

theorem judgeDriveOff_lawfulStep (s : State) : LawfulStep s (judgeDriveOff s) := by
  unfold judgeDriveOff
  split
  · split <;> exact .beside rfl rfl rfl rfl
  · split
    · exact .trans (.beside (t := { s with
        zt := { s.zt with driveOff := true, permitT := none }, tx := { s.tx with due := true } })
        rfl rfl rfl rfl) (controlledStop_lawfulStep _ _)
    · exact .refl s

/-! ## Requests on slots -/

section Slots
variable {i : SlotId} {s : State}

theorem cancelEffect_lawfulStep : LawfulStep s (cancelEffect i s) := by
  unfold cancelEffect
  split
  case h_1 hs => exact seqEnd_lawfulStep (.inl hs) _ _
  case h_2 hs => exact seqEnd_lawfulStep (.inr (.inl hs)) _ _
  case h_3 hs => exact seqEnd_lawfulStep (.inr (.inr hs)) _ _
  case h_4 => exact controlledStop_lawfulStep _ s
  case h_5 =>
    refine .modSlot i s fun x => ?_
    unfold convertStop
    split <;> exact ⟨rfl, rfl, rfl, rfl⟩
  case h_6 | h_7 => exact .refl s

/-- A slot outside the queue and the grant stands in no table once its dwell timer is stopped. -/
theorem MotionInv.working (h : MotionInv s) {f : Slot → Slot} (hready : s.loop.state = .ready)
    (hq : (s.slot i).state ≠ .queued) (ha : (s.slot i).state ≠ .active)
    (hs : (s.slot i).state ≠ .stopping) (hlive : (f (s.slot i)).state ≠ .free)
    (ht : (f (s.slot i)).dwellT = none) : Working i (modSlot i f s) where
  toElsewhere := (h.tables.elsewhere i).congr (fun j hj => slot_modSlot_ne f s (Ne.symm hj)) rfl rfl rfl
  live := by rw [slot_modSlot_same]; exact hlive
  apart := by
    rw [show (modSlot i f s).sm.queue = s.sm.queue from rfl, h.mem_queue_iff]; exact hq
  released := by
    rw [modSlot_arb, Ne, h.holder_iff]
    exact fun h' => h'.elim ha hs
  timer := by rw [slot_modSlot_same]; exact ht
  stroke := h.stroke_slot
  ready := hready
  discT := h.discT_none (by simp [hready])

theorem release_lawfulStep (hc : (s.slot i).state = .completed) : LawfulStep s (freeSlot i s) := by
  intro h
  have hself : (freeSlot i s).slot i = Slot.empty := by simp [freeSlot_slot]
  have hother (j : SlotId) (hj : j ≠ i) : (freeSlot i s).slot j = s.slot j := by
    simp [freeSlot_slot, Ne.symm hj]
  have hloop : (freeSlot i s).loop = s.loop := ((keeps_slotReaction i).freeSlot s).loop
  refine ⟨(motionInv_iff _).mpr ⟨⟨⟨by simpa using h.1.1, fun j => ?_⟩, fun j => ?_, fun j hj => ?_, ?_⟩,
    by simpa using h.2.1.2, fun hl j => ?_, by rw [hloop]; exact h.2.2.2.2.2⟩, fun j hj => ?_⟩
  · rw [freeSlot_sm]
    by_cases hji : j = i
    · subst hji; simp [hself, h.mem_queue_iff, hc, Slot.empty]
    · rw [hother j hji]; exact h.1.2 j
  · rw [freeSlot_arb]
    by_cases hji : j = i
    · subst hji; simp [hself, h.holder_iff, hc, Slot.empty]
    · rw [hother j hji]; exact h.2.1.1 j
  · by_cases hji : j = i
    · subst hji
      rw [hself] at hj
      cases hj
    · rw [hother j hji] at hj ⊢; exact h.2.2.1 j hj
  · unfold DriveInv
    rw [freeSlot_se]
    exact h.2.2.2.1
  · rw [hloop] at hl
    by_cases hji : j = i
    · subst hji; rw [hself]; exact .inl rfl
    · rw [hother j hji]; exact h.2.2.2.2.1 hl j
  · by_cases hji : j = i
    · subst hji
      exact absurd (by rw [hself]; rfl) hj
    · rw [hother j hji] at hj ⊢; exact ⟨hj, rfl, rfl⟩

theorem rerun_lawfulStep (hc : (s.slot i).state = .completed) (hl : s.loop.state = .ready) :
    LawfulStep s (makeCurrent i false (modSlot i rerunSlot s)) := by
  intro h
  have hlive : (rerunSlot (s.slot i)).state ≠ .free := by
    show (s.slot i).state ≠ .free
    simp [hc]
  refine .of_tags (.modSlot fun _ => ⟨hlive, rfl, rfl⟩) (Working.becomeCurrent _ _ _ ?_)
  exact h.working hl (by simp [hc]) (by simp [hc]) (by simp [hc]) hlive
    (h.dwellT_none (i := i) (by simp [hc]))

theorem resume_lawfulStep (hp : (s.slot i).state = .paused) : LawfulStep s (resumeStep i s) := by
  intro h
  have hlive : (s.slot i).state ≠ .free := by simp [hp]
  refine .of_tags (.modSlot fun _ => ⟨hlive, rfl, rfl⟩)
    (Working.startStep (Working.becomeCurrent _) (s := modSlot i _ s) ?_ _)
  exact h.working (h.loop_ready hlive (by simp [hp])) (by simp [hp]) (by simp [hp]) (by simp [hp]) hlive
    (h.dwellT_none (i := i) (by simp [hp]))

theorem dwell_lawfulStep (hd : (s.slot i).dwellT.isSome = true) :
    LawfulStep s (stepDone i (modSlot i (fun x => { x with dwellT := none }) s)) := by
  intro h
  have hp := h.2.2.1 i hd
  have hlive : (s.slot i).state ≠ .free := by simp [hp]
  refine .of_tags (.modSlot fun _ => ⟨hlive, rfl, rfl⟩) (Working.stepDone ?_)
  exact h.working (h.loop_ready hlive (by simp [hp])) (by simp [hp]) (by simp [hp]) (by simp [hp]) hlive
    rfl

end Slots

/-! ## Zones and lost owners -/

theorem flush_lawfulStep (z : ZoneId) (s : State) : LawfulStep s (flush z s) := by
  refine LawfulStep.foldl (fun u i => ?_) allSlots s
  unfold flushOne
  split
  · rename_i hf
    split
    · rename_i ha
      exact fun h => strokeEnds_lawful h ((h.holder_iff i).mpr (.inl ha)) _
    · rename_i ha
      refine seqEnd_lawfulStep ?_ _ _
      simp only [flushes, Bool.and_eq_true, Bool.or_eq_true, beq_iff_eq] at hf
      obtain ⟨(ha' | hq) | hp, -⟩ := hf
      · exact absurd ha' ha
      · exact .inl hq
      · exact .inr (.inl hp)
  · exact .refl u

/-- A QUEUED slot that has left the queue stands in no table. -/
theorem MotionInv.working_leaveQueue {i : SlotId} {s : State} (h : MotionInv s)
    (hq : (s.slot i).state = .queued) : Working i (leaveQueue i s) where
  nodup := h.1.1.filter _
  queue j hj := by
    show j ∈ s.sm.queue.filter (· != i) ↔ (s.slot j).state = .queued
    simp [hj, h.1.2 j]
  holder j _ := h.2.1.1 j
  dwell j _ := h.2.2.1 j
  drive := h.2.2.2.1
  live := by rw [leaveQueue_slot]; simp [hq]
  apart := by
    show i ∉ s.sm.queue.filter (· != i)
    simp
  released := by
    show s.arb.holder ≠ some i
    rw [Ne, h.holder_iff]
    simp [hq]
  timer := h.dwellT_none (i := i) (by simp [hq])
  stroke := h.stroke_slot
  ready := h.loop_ready (i := i) (by simp [hq]) (by simp [hq])
  discT := h.discT_none (by
    rw [h.loop_ready (i := i) (by simp [hq]) (by simp [hq])]
    simp)

theorem ownerLoss_lawfulStep (st : StationId) (s : State) : LawfulStep s (ownerLoss st s) := by
  refine LawfulStep.foldl (fun u i => ?_) allSlots s
  unfold ownerLossOn
  split
  · split
    case h_1 hq =>
      intro h
      exact .of_tags (fun j hj => ⟨hj, rfl, rfl⟩) ((h.working_leaveQueue hq).pauseSlot _)
    case h_2 | h_3 | h_4 => exact .modSlot i u fun _ => ⟨rfl, rfl, rfl, rfl⟩
    all_goals exact .refl u
  · exact .refl u

/-! ## Joins and arrivals -/

theorem takeJoin_lawfulStep {k : Stroke} {s : State} (hk : s.se.stroke = some k) (p : Nat) :
    LawfulStep s (takeJoin k p s) := by
  unfold takeJoin
  have hslot : LawfulStep s (modSlot k.slot
      (fun x => { x with step := x.step + 1, interrupted := false }) s) :=
    .modSlot k.slot s fun _ => ⟨rfl, rfl, rfl, rfl⟩
  have hk' : (modSlot k.slot (fun x => { x with step := x.step + 1, interrupted := false }) s).se.stroke
      = some k := hk
  generalize modSlot k.slot (fun x => { x with step := x.step + 1, interrupted := false }) s = u
    at hslot hk' ⊢
  dsimp only
  split
  · exact hslot
  · rename_i st _
    have htold : LawfulStep u (if st.notify then progress (u.slot k.slot).owner k.slot .stepStarted u
        else u) ∧ (if st.notify then progress (u.slot k.slot).owner k.slot .stepStarted u
          else u).se.stroke = some k := by
      split
      · exact ⟨.place _ _ u, by rw [← hk']; exact congrArg _ (place_se _ _ _)⟩
      · exact ⟨.refl u, hk'⟩
    generalize (if st.notify then progress (u.slot k.slot).owner k.slot .stepStarted u else u) = v
      at htold ⊢
    have hplan := SlotReaction.planStroke_slot v k (v.slot k.slot) st true p
    have haxis := SlotReaction.planStroke_axis v k (v.slot k.slot) st true p
    generalize planStroke v k (v.slot k.slot) st true p = k2 at hplan haxis ⊢
    have hmark : LawfulStep v (if k2.join = .dropped then markJoinDropped k2.slot v else v)
        ∧ (if k2.join = .dropped then markJoinDropped k2.slot v else v).se.stroke = some k := by
      split
      · exact ⟨markJoinDropped_lawfulStep _ v, htold.2⟩
      · exact ⟨.refl v, htold.2⟩
    exact hslot.trans (htold.1.trans (hmark.1.trans
      (beginDriving_lawfulStep hmark.2 (k' := { k2 with stallT := none }) hplan haxis p)))

theorem beginSettling_lawfulStep {k : Stroke} {s : State} (hk : s.se.stroke = some k) :
    LawfulStep s (beginSettling k s) := by
  have hset (k' : Stroke) (f : Drive → Drive) (hs : k'.slot = k.slot) (ha : k'.axis = k.axis) :
      LawfulStep s (setStroke (some k') (flowEnds (modDrive k.axis f s))) := by
    refine (LawfulStep.drive hk f).trans ((flowEnds_lawfulStep _).trans
      (LawfulStep.stroke (k := k) ?_ hs ha))
    rw [flowEnds_se]
    exact hk
  unfold beginSettling
  generalize hk' : { k with
    phase := .settling, limitT := none, stallT := none, settleT := some (s.axisCfg k.axis).settle } = k'
  have hslot : k'.slot = k.slot := by rw [← hk']
  have haxis : k'.axis = k.axis := by rw [← hk']
  dsimp only
  rw [hk']
  split
  · exact (hset k' (fun x => { x with level := 0, valve := .neutral }) hslot haxis).trans
      (hslot ▸ strokeEnds_lawfulStep (k := k') rfl _)
  · exact hset k' _ hslot haxis

theorem arrive_lawfulStep (n p : Nat) (k : Stroke) (s : State) (hk : s.se.stroke = some k) :
    LawfulStep s (arrive n p k s) := by
  induction n generalizing k s with
  | zero => exact .refl s
  | succ n ih =>
    unfold arrive
    split
    · have hjoin := takeJoin_lawfulStep hk p
      dsimp only
      split
      · rename_i k2 hk2
        split
        · exact hjoin.trans (ih k2 _ hk2)
        · exact hjoin
      · exact hjoin
    · exact beginSettling_lawfulStep hk

end Sys2Proof.Machine
end

section
/-! PROOFS. An accepted Submit: what the checks of R10 and the resource refusals of R17 have tested when a
block is accepted, and the laws of owners with the new slot. -/

namespace Sys2Proof.Machine

/-! ## The checks -/

theorem firstFailure_eq_none {l : List CheckResult} (h : firstFailure l = none) : ∀ p ∈ l, p.2 = none := by
  induction l with
  | nil => simp
  | cons p l ih =>
    obtain ⟨code, _ | k⟩ := p
    · exact List.forall_mem_cons.mpr ⟨rfl, ih h⟩
    · cases h

/-- A check that no step fails: each step passes it with the steps behind it. -/
theorem firstBad_eq_none {bad : RawStep → List RawStep → Bool} {l : List RawStep} {n : Nat}
    (h : firstBad bad n l = none) {k : Nat} {x : RawStep} (hx : l[k]? = some x) :
    bad x (l.drop (k + 1)) = false := by
  induction l generalizing n k with
  | nil => cases hx
  | cons y l ih =>
    unfold firstBad at h
    split at h
    · cases h
    · rename_i hy
      cases k with
      | zero => cases hx; simpa using hy
      | succ k => exact ih h hx

theorem lowestFree_eq_some {s : State} {i : SlotId} (h : lowestFree s = some i) :
    (s.slot i).state = .free ∧ ∀ j < i, (s.slot j).state ≠ .free := by
  obtain ⟨hi, before, after, hsplit, hbefore⟩ := List.find?_eq_some_iff_append.mp h
  refine ⟨by simpa using hi, fun j hj => ?_⟩
  have hsorted : (before ++ i :: after).Pairwise (· < ·) := hsplit ▸ by decide
  have hmem : j ∈ before ++ i :: after := hsplit ▸ (by decide : ∀ x : SlotId, x ∈ allSlots) j
  obtain ⟨-, hafter, -⟩ := List.pairwise_append.mp hsorted
  rcases List.mem_append.mp hmem with hmem | hmem
  · simpa using hbefore j hmem
  · rcases List.mem_cons.mp hmem with rfl | hmem
    · exact absurd hj (lt_irrefl _)
    · exact absurd hj (lt_asymm (List.rel_of_pairwise_cons hafter hmem))

theorem dupTag_eq_false {s : State} {st : StationId} {tag : Byte} (h : dupTag s st tag = false)
    {j : SlotId} (hlive : (s.slot j).state ≠ .free) (hj : (s.slot j).owner = st) :
    (s.slot j).block.tag ≠ tag := by
  intro htag
  have hall := List.any_eq_false.mp h j (List.mem_finRange j)
  simp [hlive, hj, htag] at hall

/-- What stands when no resource refusal is left (R17). -/
structure Admitted (st : StationId) (tag : Byte) (s : State) : Prop where
  ready : s.loop.state = .ready
  idle : s.store.programming = none
  sound : s.store.fault = false
  tagNew : dupTag s st tag = false
  room : ownedCount s st < stationSlotMax

theorem resourceRefusal_eq_none {s : State} {st : StationId} {tag : Byte}
    (h : resourceRefusal s st tag = none) : Admitted st tag s := by
  unfold resourceRefusal at h
  repeat' split at h
  all_goals cases h
  constructor <;> simp_all

/-- An accepted block has passed every check, no resource refusal is left, and its slot is the lowest FREE
one (R9, R17, R18). -/
theorem submitOutcome_inr {s : State} {st : StationId} {bytes : List Byte} {i : SlotId}
    (h : submitOutcome s st bytes = .inr i) :
    (∀ p ∈ formatChecks s.store.fault s.cfg st bytes, p.2 = none)
      ∧ Admitted st (submitTag bytes) s ∧ lowestFree s = some i := by
  unfold submitOutcome at h
  split at h
  · cases h
  · rename_i hchecks
    split at h
    · cases h
    · rename_i hres
      split at h
      · cases h
      · rename_i hfree
        cases h
        exact ⟨firstFailure_eq_none hchecks, resourceRefusal_eq_none hres, hfree⟩

/-- The checks that speak of the shape of a block, and those of its steps. -/
structure Checked (c : Cfg) (st : StationId) (bytes : List Byte) : Prop where
  long : 6 ≤ bytes.length
  count : 1 ≤ (readBlock bytes).steps.length ∧ (readBlock bytes).steps.length ≤ 24
  chain : firstBad badChain 1 (readBlock bytes).steps = none
  action : firstBad badAction 1 (readBlock bytes).steps = none
  axis : firstBad (badAxis c) 1 (readBlock bytes).steps = none
  target : firstBad (badTarget c) 1 (readBlock bytes).steps = none
  dwell : firstBad badDwell 1 (readBlock bytes).steps = none

theorem checked_of_formatChecks {c : Cfg} {st : StationId} {bytes : List Byte}
    (h : ∀ p ∈ formatChecks false c st bytes, p.2 = none) : Checked c st bytes := by
  simp only [formatChecks, List.forall_mem_cons, Bool.false_eq_true, if_false] at h
  obtain ⟨hformat, -, hcount, -, hchain, haction, haxis, htarget, hdwell, -⟩ := h
  simp only [ite_eq_right_iff, reduceCtorEq, imp_false] at hformat hcount
  simp only [Bool.or_eq_true, decide_eq_true_eq, bne_iff_ne, ne_eq, not_or, not_not, not_lt] at hformat hcount
  obtain ⟨⟨⟨hzero, hmax⟩, hlen⟩, -⟩ := hcount
  exact ⟨hformat.1, by omega, hchain, haction, haxis, htarget, hdwell⟩

theorem submitTag_of_long {bytes : List Byte} (h : 6 ≤ bytes.length) :
    submitTag bytes = (storedBlock bytes).tag := by
  rw [submitTag, if_neg (by omega)]
  rfl

theorem submitOutcome_checked {s : State} {st : StationId} {bytes : List Byte} {i : SlotId}
    (h : submitOutcome s st bytes = .inr i) : Checked s.cfg st bytes := by
  obtain ⟨hchecks, hadmit, -⟩ := submitOutcome_inr h
  rw [hadmit.sound] at hchecks
  exact checked_of_formatChecks hchecks

/-! ## The steps of an accepted block -/

section Steps
variable {c : Cfg} {st : StationId} {bytes : List Byte} (h : Checked c st bytes)
  {k : Nat} {x : RawStep} (hx : (readBlock bytes).steps[k]? = some x)
include h hx

theorem Checked.chain_iff : x.chain = true ↔ k + 1 < (readBlock bytes).steps.length := by
  have hbad := firstBad_eq_none h.chain hx
  unfold badChain at hbad
  have hk : k < (readBlock bytes).steps.length := (List.getElem?_eq_some_iff.mp hx).1
  split at hbad
  · rename_i hempty
    have hlast : (readBlock bytes).steps.length ≤ k + 1 := by simpa using hempty
    simp [hbad, hlast]
  · rename_i hrest
    have hlast : k + 1 < (readBlock bytes).steps.length := by simpa using hrest
    simp [hlast, show x.chain = true by simpa using hbad]

theorem Checked.action_range : x.action = 1 ∨ x.action = 2 ∨ x.action = 3 := by
  have hbad := firstBad_eq_none h.action hx
  simp only [badAction, Bool.or_eq_false_iff, Bool.not_eq_false', within, Bool.and_eq_true,
    decide_eq_true_eq] at hbad
  omega

theorem Checked.dwell_range (hd : x.action = 2) : 1 ≤ x.dwell ∧ x.dwell ≤ 600 := by
  have hbad := firstBad_eq_none h.dwell hx
  simpa [badDwell, hd, within] using hbad

theorem Checked.target_range (ha : x.action = 1 ∨ x.action = 3) : ∃ a : AxisId,
    x.axis = a.val + 1 ∧ c.axes[a].present = true ∧ c.axes[a].elo ≤ x.target
      ∧ x.target ≤ c.axes[a].ehi := by
  have haxis : x.hasAxis = true := by
    rcases ha with h' | h' <;> simp [RawStep.hasAxis, h']
  have hpresent := firstBad_eq_none h.axis hx
  have htarget := firstBad_eq_none h.target hx
  simp only [badAxis, badTarget, haxis, Bool.true_and] at hpresent htarget
  cases hcfg : stepAxisCfg c x with
  | none => simp [hcfg] at hpresent
  | some y =>
    simp only [hcfg, Bool.not_eq_false', within, Bool.and_eq_true, decide_eq_true_eq] at htarget
    obtain ⟨a, hitem, hy⟩ := Option.bind_eq_some_iff.mp hcfg
    split at hy
    · rename_i hp
      cases hy
      refine ⟨a, ?_, hp, htarget.1, htarget.2⟩
      unfold itemOf at hitem
      split at hitem
      · cases hitem
        dsimp only
        omega
      · cases hitem
    · cases hy

end Steps

/-- Settles O12: what the checks have tested, read off the stored block. -/
theorem acceptedBlockIsSound : Obligations.AcceptedBlockIsSound := by
  intro st bytes s i hsub
  obtain ⟨-, hadmit, hlow⟩ := submitOutcome_inr hsub
  have hchecked := submitOutcome_checked hsub
  obtain ⟨hfree, hbefore⟩ := lowestFree_eq_some hlow
  refine ⟨hfree, hbefore, hadmit.ready, hadmit.sound, hadmit.idle, hadmit.room, fun j hlive hj => ?_, ?_⟩
  · rw [← submitTag_of_long hchecked.long]
    exact dupTag_eq_false hadmit.tagNew hlive hj
  · have hlen : (storedBlock bytes).steps.length = (readBlock bytes).steps.length := by
      simp [storedBlock]
    rw [hlen]
    refine ⟨hchecked.count.1, hchecked.count.2, fun k x hx => ?_⟩
    simp only [storedBlock, List.getElem?_map, Option.map_eq_some_iff] at hx
    obtain ⟨y, hy, rfl⟩ := hx
    have hrange := hchecked.action_range hy
    refine ⟨hchecked.chain_iff hy, fun hd => hchecked.dwell_range hy ?_,
      fun hd => hchecked.target_range hy ?_⟩
    · simp only [RawStep.store] at hd
      split at hd <;> [cases hd; skip]
      split at hd <;> [assumption; cases hd]
    · simp only [RawStep.store] at hd
      split at hd <;> [exact .inl ‹_›; skip]
      split at hd <;> [exact absurd rfl hd; skip]
      omega

/-! ## The laws of owners with the new slot -/

theorem countP_le_add {α : Type} {p q r : α → Bool} (l : List α)
    (h : ∀ x, p x = true → q x = true ∨ r x = true) : l.countP p ≤ l.countP q + l.countP r := by
  induction l with
  | nil => simp
  | cons x l ih =>
    have hx := h x
    simp only [List.countP_cons]
    split <;> split <;> split <;> first | omega | simp_all

theorem ownedCount_le_succ {s t : State} {i : SlotId} (hother : ∀ j, j ≠ i → t.slot j = s.slot j)
    (st : StationId) : ownedCount t st ≤ ownedCount s st + 1 := by
  unfold ownedCount
  rw [← List.countP_eq_length_filter, ← List.countP_eq_length_filter]
  have hone : allSlots.countP (· == i) = 1 := (by decide : ∀ i : SlotId, allSlots.countP (· == i) = 1) i
  rw [← hone]
  refine countP_le_add _ fun j hj => ?_
  by_cases hji : j = i
  · exact .inr (by simp [hji])
  · exact .inl (by rwa [← hother j hji])

theorem ownedCount_le_of_ne {s t : State} {i : SlotId} (hother : ∀ j, j ≠ i → t.slot j = s.slot j)
    {st : StationId} (hi : (t.slot i).owner ≠ st) : ownedCount t st ≤ ownedCount s st := by
  unfold ownedCount
  rw [← List.countP_eq_length_filter, ← List.countP_eq_length_filter]
  refine List.countP_mono_left fun j _ hj => ?_
  by_cases hji : j = i
  · subst hji; simp [hi] at hj
  · rwa [← hother j hji]

/-- A slot written for a station with room, under a Tag it does not use, keeps the laws (R17). -/
theorem OwnerInv.slotWritten {s t : State} {i : SlotId} {st : StationId} (h : OwnerInv s)
    (hother : ∀ j, j ≠ i → t.slot j = s.slot j) (howner : (t.slot i).owner = st)
    (hroom : ownedCount s st < stationSlotMax)
    (htag : ∀ j, (s.slot j).state ≠ .free → (s.slot j).owner = st →
      (s.slot j).block.tag ≠ (t.slot i).block.tag) : OwnerInv t := by
  refine ⟨fun x => ?_, fun j k hj hk how htags => ?_⟩
  · by_cases hx : x = st
    · subst hx
      exact le_trans (ownedCount_le_succ hother x) hroom
    · exact le_trans (ownedCount_le_of_ne hother (by rw [howner]; exact Ne.symm hx)) (h.1 x)
  · by_cases hji : j = i <;> by_cases hki : k = i
    · rw [hji, hki]
    · subst hji
      rw [hother k hki] at hk how htags
      exact absurd htags.symm (htag k hk (how.symm.trans howner))
    · subst hki
      rw [hother j hji] at hj how htags
      exact absurd htags (htag j hj (how.trans howner))
    · rw [hother j hji] at hj how htags
      rw [hother k hki] at hk how htags
      exact h.2 j k hj hk how htags

end Sys2Proof.Machine
end

section
/-! PROOFS. The loop, the accepted Submit, the start-up and the millisecond keep the agreement of the tables
and the laws of owners; with the reactions of the strokes and the slots, every step does. -/

namespace Sys2Proof.Machine

/-! ## The ALERT to every station -/

/-- Notices to every station change only the notice queues, the Fault Summary and the run being sent. -/
theorem placeAll_eq (n : Notice) (s : State) : placeAll n s = { s with
    crew := (placeAll n s).crew
    cab := (placeAll n s).cab
    tx := { s.tx with run := (placeAll n s).tx.run }
    faults := (placeAll n s).faults } := by
  unfold placeAll
  generalize allStations = l
  induction l generalizing s with
  | nil => rfl
  | cons st l ih =>
    rw [List.foldl_cons, ih (place st n s)]
    rw [place_eq st n s]

section PlaceAll
variable (n : Notice) (s : State)
@[simp] theorem placeAll_sm : (placeAll n s).sm = s.sm := by rw [placeAll_eq]
@[simp] theorem placeAll_zt : (placeAll n s).zt = s.zt := by rw [placeAll_eq]
@[simp] theorem placeAll_arb : (placeAll n s).arb = s.arb := by rw [placeAll_eq]
@[simp] theorem placeAll_sensors : (placeAll n s).sensors = s.sensors := by rw [placeAll_eq]
@[simp] theorem placeAll_se : (placeAll n s).se = s.se := by rw [placeAll_eq]
@[simp] theorem placeAll_bu : (placeAll n s).bu = s.bu := by rw [placeAll_eq]
@[simp] theorem placeAll_loop : (placeAll n s).loop = s.loop := by rw [placeAll_eq]
@[simp] theorem placeAll_veh : (placeAll n s).veh = s.veh := by rw [placeAll_eq]
@[simp] theorem placeAll_sup : (placeAll n s).sup = s.sup := by rw [placeAll_eq]
@[simp] theorem placeAll_lines : (placeAll n s).lines = s.lines := by rw [placeAll_eq]
@[simp] theorem placeAll_cfg : (placeAll n s).cfg = s.cfg := by rw [placeAll_eq]
@[simp] theorem placeAll_store : (placeAll n s).store = s.store := by rw [placeAll_eq]
@[simp] theorem placeAll_slot (i : SlotId) : (placeAll n s).slot i = s.slot i :=
  slot_congr (by rw [placeAll_sm]) i
end PlaceAll

@[simp] theorem setLoop_sm (new : LoopState) (st : Option StationId) (s : State) :
    (setLoop new st s).sm = s.sm := placeAll_sm _ _
@[simp] theorem setLoop_arb (new : LoopState) (st : Option StationId) (s : State) :
    (setLoop new st s).arb = s.arb := placeAll_arb _ _
@[simp] theorem setLoop_se (new : LoopState) (st : Option StationId) (s : State) :
    (setLoop new st s).se = s.se := placeAll_se _ _
@[simp] theorem setLoop_loop (new : LoopState) (st : Option StationId) (s : State) :
    (setLoop new st s).loop = { s.loop with state := new } := placeAll_loop _ _

/-! ## Changes of the loop -/

/-- A change of the loop that leaves the slots, the grant and the strokes alone. -/
theorem MotionInv.loopMoved {s t : State} (h : MotionInv s) (hsm : t.sm = s.sm)
    (hh : t.arb.holder = s.arb.holder) (hse : t.se = s.se)
    (hready : s.loop.state = .ready → t.loop.state = .ready)
    (hdisc : t.loop.discT.isSome = true → t.loop.state = .tripped) : MotionInv t := by
  have hslot (j : SlotId) : t.slot j = s.slot j := slot_congr (by rw [hsm]) j
  obtain ⟨hq, hg, hw, hd, hl⟩ := h
  refine ⟨?_, ?_, ?_, ?_, fun hne j => ?_, hdisc⟩
  · simpa only [QueueInv, hslot, hsm] using hq
  · simpa only [GrantInv, hslot, hh, hse] using hg
  · simpa only [DwellInv, hslot] using hw
  · simpa only [DriveInv, hse] using hd
  · rw [hslot]
    exact hl.1 (fun hr => hne (hready hr)) j

theorem LawfulStep.loopMoved {s t : State} (hsm : t.sm = s.sm) (hh : t.arb.holder = s.arb.holder)
    (hse : t.se = s.se) (hready : s.loop.state = .ready → t.loop.state = .ready)
    (hdisc : MotionInv s → t.loop.discT.isSome = true → t.loop.state = .tripped) : LawfulStep s t :=
  fun h => ⟨h.loopMoved hsm hh hse hready (hdisc h), .of_sm hsm⟩

/-- One slot at the loop leaving READY: it is settled, and the others keep their tables (R49). -/
theorem tripOne_tables {s : State} (h : Tables s) (i : SlotId) :
    Tables (tripOne s i) ∧ TagsKept s (tripOne s i)
      ∧ ((tripOne s i).slot i).state ∈ [SlotState.free, .completed]
      ∧ (∀ j, j ≠ i → (tripOne s i).slot j = s.slot j)
      ∧ (tripOne s i).se = s.se ∧ (tripOne s i).loop = s.loop := by
  have hended (hlive : (s.slot i).state ≠ .free) : Tables (seqEnd i .emergency none s)
      ∧ TagsKept s (seqEnd i .emergency none s)
      ∧ ((seqEnd i .emergency none s).slot i).state ∈ [SlotState.free, .completed]
      ∧ (∀ j, j ≠ i → (seqEnd i .emergency none s).slot j = s.slot j)
      ∧ (seqEnd i .emergency none s).se = s.se ∧ (seqEnd i .emergency none s).loop = s.loop :=
    ⟨(h.elsewhere i).seqEnd _ _, seqEnd_tags hlive _ _, by simpa using seqEnd_state i _ _ s,
      fun j hj => seqEnd_slot_ne i _ _ s hj, by simp, by simp⟩
  unfold tripOne
  split
  case h_1 hs | h_2 hs => exact ⟨h, .of_sm rfl, by simp [hs], fun _ _ => rfl, rfl, rfl⟩
  all_goals
    rename_i hs
    exact hended (by simp [hs])

/-- The fold over the slots at the loop leaving READY settles every slot it has passed. -/
theorem tripSlots_tables (l : List SlotId) {s : State} (h : Tables s) :
    Tables (l.foldl tripOne s) ∧ TagsKept s (l.foldl tripOne s)
      ∧ (∀ j, j ∈ l ∨ (s.slot j).state ∈ [SlotState.free, .completed] →
          ((l.foldl tripOne s).slot j).state ∈ [SlotState.free, .completed])
      ∧ (l.foldl tripOne s).se = s.se ∧ (l.foldl tripOne s).loop = s.loop := by
  induction l generalizing s with
  | nil => exact ⟨h, .of_sm rfl, by simp, rfl, rfl⟩
  | cons i l ih =>
    obtain ⟨hone, htags, hself, hother, hse, hloop⟩ := tripOne_tables h i
    obtain ⟨hall, htags', hsettled, hse', hloop'⟩ := ih hone
    refine ⟨hall, htags.trans htags', fun j hj => hsettled j ?_, hse'.trans hse, hloop'.trans hloop⟩
    by_cases hji : j = i
    · exact .inr (hji ▸ hself)
    · rw [hother j hji]
      simpa [hji] using hj

section Cut
variable (s : State)

theorem cutPump_eq : cutPump s = { s with arb := (cutPump s).arb } := by
  unfold cutPump
  split <;> rfl

theorem cutPump_holder : (cutPump s).arb.holder = s.arb.holder := by
  unfold cutPump
  split <;> rfl

@[simp] theorem cutPump_sm : (cutPump s).sm = s.sm := by rw [cutPump_eq]
@[simp] theorem cutPump_se : (cutPump s).se = s.se := by rw [cutPump_eq]
@[simp] theorem cutPump_loop : (cutPump s).loop = s.loop := by rw [cutPump_eq]

end Cut

/-- The tables read the slots, the queue and the holder. -/
theorem Tables.congr {s t : State} (h : Tables s) (hsm : t.sm = s.sm)
    (hh : t.arb.holder = s.arb.holder) (hd : DriveInv t) : Tables t := by
  have hslot (j : SlotId) : t.slot j = s.slot j := slot_congr (by rw [hsm]) j
  obtain ⟨hq, hg, hw, -⟩ := h
  refine ⟨?_, ?_, ?_, hd⟩
  · simpa only [QueueInv, hslot, hsm] using hq
  · simpa only [hslot, hh] using hg
  · simpa only [DwellInv, hslot] using hw

/-- The ends of every slot, from a state in TRIPPED with the strokes at rest (R49). -/
theorem tripSlots_lawful {s : State} (h : Tables s) (hse : s.se.stroke = none)
    (hloop : s.loop.state = .tripped) : Lawful s (allSlots.foldl tripOne s) := by
  obtain ⟨htab, htags, hsettled, hse', hloop'⟩ := tripSlots_tables allSlots h
  generalize allSlots.foldl tripOne s = t at htab htags hsettled hse' hloop' ⊢
  have hrest (j : SlotId) : (t.slot j).state = .free ∨ (t.slot j).state = .completed := by
    simpa using hsettled j (.inl (List.mem_finRange j))
  have hfree : t.arb.holder = none := by
    by_contra hne
    obtain ⟨j, hj⟩ := Option.ne_none_iff_exists'.mp hne
    rcases (htab.holder j).mp hj with h' | h' <;> rcases hrest j with h'' | h'' <;>
      exact absurd (h'.symm.trans h'') (by decide)
  exact ⟨(motionInv_iff _).mpr ⟨htab, by rw [hfree, hse', hse]; rfl, fun _ => hrest,
    fun _ => by rw [hloop', hloop]⟩, htags⟩

/-- At the loop leaving READY every slot ends, the strokes rest and the grant is free. -/
theorem leaveReady_lawful {s u : State} (h : Tables s) (hsm : u.sm = s.sm)
    (hh : u.arb.holder = s.arb.holder) : Lawful s (leaveReady u) := by
  unfold leaveReady
  have hsm' : (setLoop .tripped none u).sm = s.sm := by rw [setLoop_sm, hsm]
  have hh' : (setLoop .tripped none u).arb.holder = s.arb.holder := by rw [setLoop_arb, hh]
  have hloop : (setLoop .tripped none u).loop.state = .tripped := by rw [setLoop_loop]
  generalize setLoop .tripped none u = v at hsm' hh' hloop
  have hcut : (cutPump (cutStroke v)).sm = s.sm := by rw [cutPump_sm]; exact hsm'
  refine .of_tags (.of_sm hcut) (tripSlots_lawful (h.congr hcut ?_ fun a _ => ?_) ?_ ?_)
  · rw [cutPump_holder]; exact hh'
  · rw [cutPump_se]; simp [cutStroke]
  · rw [cutPump_se]; rfl
  · rw [cutPump_loop]; exact hloop

theorem withReading_state (l : Loop) (ch : Channel) (closed : Bool) :
    (l.withReading ch closed).state = l.state ∧ (l.withReading ch closed).discT = l.discT := by
  cases ch <;> exact ⟨rfl, rfl⟩

/-- The discrepancy timer runs only in the state TRIPPED that the reading leads to (R133). -/
theorem discrepancyAfter_tripped {l : Loop} (hl : l.discT.isSome = true → l.state = .tripped)
    (h : (discrepancyAfter { l with state := (loopAfter l).1 }).isSome = true) :
    (loopAfter l).1 = .tripped := by
  obtain ⟨state, a, b, discT, both⟩ := l
  cases state <;> cases a <;> cases b <;> cases both <;> simp_all [loopAfter, discrepancyAfter]

theorem channelChanged_lawfulStep (ch : Channel) (closed : Bool) (s : State) :
    LawfulStep s (channelChanged ch closed s) := by
  obtain ⟨hstate, hdiscT⟩ := withReading_state s.loop ch closed
  have hdisc (h : MotionInv s) := discrepancyAfter_tripped (l := s.loop.withReading ch closed)
    (by rw [hdiscT, hstate]; exact h.2.2.2.2.2)
  unfold channelChanged
  dsimp only
  split
  · rename_i hsame
    refine .loopMoved rfl rfl rfl (fun hr => hstate.trans hr) fun h hd => ?_
    rw [show _ = _ from hsame.symm]
    exact hdisc h hd
  · split
    · exact fun h => leaveReady_lawful h.tables rfl rfl
    · rename_i hne
      refine .loopMoved (by simp) (by simp) (by simp) (fun hr => absurd (hstate.trans hr) hne)
        fun h hd => ?_
      simp only [setLoop_loop] at hd ⊢
      exact hdisc h hd

theorem discrepancyExpired_lawfulStep {s : State} (hd : s.loop.discT.isSome = true) :
    LawfulStep s (discrepancyExpired s) := by
  intro h
  have htripped := h.2.2.2.2.2 hd
  refine LawfulStep.loopMoved (by simp [discrepancyExpired]) (by simp [discrepancyExpired])
    (by simp [discrepancyExpired]) (fun hr => ?_) (fun _ hd' => ?_) h
  · simp [htripped] at hr
  · simp [discrepancyExpired] at hd'

theorem loopReady_lawfulStep {st : Option StationId} {s : State} (hc : s.loop.state = .closedWait) :
    LawfulStep s (setLoop .ready st s) := by
  intro h
  refine LawfulStep.loopMoved (by simp) (by simp) (by simp) (fun _ => by simp) (fun _ hd => ?_) h
  have hnone := h.discT_none (by simp [hc])
  simp [hnone] at hd

/-! ## The invariants together -/

/-- A reaction keeps the agreement of the tables, and with it the laws of owners. -/
def LawsKept (s t : State) : Prop := MotionInv s → MotionInv t ∧ (OwnerInv s → OwnerInv t)

theorem LawfulStep.laws {s t : State} (h : LawfulStep s t) : LawsKept s t := fun hs =>
  ⟨(h hs).1, ownerInv_of_tagsKept (h hs).2⟩

theorem LawsKept.trans {s t u : State} (h : LawsKept s t) (g : LawsKept t u) : LawsKept s u := fun hs =>
  ⟨(g (h hs).1).1, fun ho => (g (h hs).1).2 ((h hs).2 ho)⟩

/-- An accepted block is written into a FREE slot, whose step 1 becomes current (R18, R17). -/
theorem acceptSubmit_laws {st : StationId} {bytes : List Byte} {i : SlotId} {s : State}
    (hsub : submitOutcome s st bytes = .inr i) : LawsKept s (acceptSubmit st i bytes s) := by
  intro h
  obtain ⟨-, hadmit, hlow⟩ := submitOutcome_inr hsub
  have hlong := (submitOutcome_checked hsub).long
  obtain ⟨hfree, -⟩ := lowestFree_eq_some hlow
  have hwritten : Working i (modSlot i (fun _ => acceptedSlot st (storedBlock bytes)) s) :=
    h.working hadmit.ready (by simp [hfree]) (by simp [hfree]) (by simp [hfree]) (by simp [acceptedSlot]) rfl
  have howner (ho : OwnerInv s) :
      OwnerInv (modSlot i (fun _ => acceptedSlot st (storedBlock bytes)) s) :=
    ho.slotWritten (fun j hj => slot_modSlot_ne _ s (Ne.symm hj)) (by simp [acceptedSlot]) hadmit.room
      fun j hlive hj => by
        simpa [acceptedSlot, submitTag_of_long hlong] using dupTag_eq_false hadmit.tagNew hlive hj
  have hmade (u : State) (hu : Working i u) :
      Lawful u (makeCurrent i false (answer st kindSubmit .ok (.submit (some i) (submitTag bytes) 0)
        (judgePower u))) := by
    have hjudged : Working i (judgePower u) := by
      rw [judgePower_eq]
      exact { hu with toElsewhere := hu.toElsewhere.congr (fun _ _ => rfl) rfl rfl rfl }
    refine .of_tags (.of_sm ?_) (Working.becomeCurrent _ false _ (hjudged.place st _))
    rw [answer_sm, judgePower_eq]
  obtain ⟨hm, ht⟩ := hmade _ hwritten
  exact ⟨hm, fun ho => ownerInv_of_tagsKept ht (howner ho)⟩

theorem lawsKept_commandReaction : CommandReaction LawsKept where
  refl s := (LawfulStep.refl s).laws
  trans := LawsKept.trans
  aside h := (LawfulStep.beside h.sm h.holder h.se h.loop).laws
  place st n s := (LawfulStep.place st n s).laws
  crew _ _ _ _ := (LawfulStep.beside rfl rfl rfl rfl).laws
  cab _ _ _ := (LawfulStep.beside rfl rfl rfl rfl).laws
  program _ _ := (LawfulStep.beside rfl rfl rfl rfl).laws
  settle s := (lawfulStep_closing.settle judgeDriveOff_lawfulStep s).laws
  cancel _ _ := cancelEffect_lawfulStep.laws
  release _ _ hc := (release_lawfulStep hc).laws
  clearFlag i s := (LawfulStep.modSlot (f := fun x => { x with flag := false }) i s fun _ =>
    ⟨rfl, rfl, rfl, rfl⟩).laws
  rerun _ _ hc hl := (rerun_lawfulStep hc hl).laws
  resume _ _ hp := (resume_lawfulStep hp).laws
  submit _ _ _ _ hsub := acceptSubmit_laws hsub
  dwell _ _ hd := (dwell_lawfulStep hd).laws
  flush z s := (flush_lawfulStep z s).laws
  stop o s := (controlledStop_lawfulStep o s).laws
  ownerLoss st s := (ownerLoss_lawfulStep st s).laws
  pumpReady s := (pumpReady_lawfulStep s).laws
  strokeEnds _ e _ hk := (strokeEnds_lawfulStep hk e).laws
  holderEnds _ e _ hi := LawfulStep.laws fun h => strokeEnds_lawful h hi e
  stopEnds k s hk := (stopEnds_lawfulStep (k := k) (by rw [hk]; rfl)).laws
  stroke _ _ _ hk hs ha := (LawfulStep.stroke hk hs ha).laws
  drive _ f _ hk := (LawfulStep.drive hk f).laws
  arrive n p k s hk := (arrive_lawfulStep n p k s hk).laws
  channel ch closed s := (channelChanged_lawfulStep ch closed s).laws
  discrepancy _ hd := (discrepancyExpired_lawfulStep hd).laws
  loopReady _ _ hc := (loopReady_lawfulStep hc).laws

/-- After a start-up every slot is FREE and every table is empty (R170). -/
theorem resetBlocks_laws (l : LineLevels) (r : Option TxRun) (s : State) :
    LawsKept s (resetBlocks l r s) := by
  have hslot (j : SlotId) : (resetBlocks l r s).slot j = Slot.empty := by
    simp [State.slot, resetBlocks]
  have hloop : LoopInv (resetBlocks l r s) := by
    refine ⟨fun _ j => .inl (by rw [hslot]; rfl), fun hd => ?_⟩
    show (if (l.closedA && l.closedB) = true then LoopState.ready else .tripped) = .tripped
    have hd' : (if (l.closedA != l.closedB) = true then some discrepancyMs else none).isSome = true := hd
    cases ha : l.closedA <;> cases hb : l.closedB <;> simp_all
  intro _
  refine ⟨⟨⟨List.nodup_nil, fun j => ?_⟩, ⟨fun j => ?_, rfl⟩, fun j hj => ?_, fun a _ => ?_, hloop⟩,
    fun _ => ⟨fun st => ?_, fun j _ hj => ?_⟩⟩
  · rw [hslot]; simp [resetBlocks, Slot.empty]
  · rw [hslot]; simp [resetBlocks, Slot.empty]
  · rw [hslot] at hj; cases hj
  · simp [resetBlocks]
  · have hnone : ownedCount (resetBlocks l r s) st = 0 := by
      simp [ownedCount, hslot, Slot.empty]
    omega
  · rw [hslot] at hj
    exact absurd rfl hj

/-! ## The millisecond -/

theorem tickT_isSome (t : Timer) : (tickT t).isSome = t.isSome := by cases t <;> rfl

theorem tick_slot (s : State) (i : SlotId) :
    (tick s).slot i = { s.slot i with dwellT := tickT (s.slot i).dwellT } := by
  simp [State.slot, tick, tickLinks, tickDrive, tickBody]

/-- A millisecond changes no state of a slot, no holder and no owner, and starts and stops no timer. -/
theorem tick_laws (s : State) : LawsKept s (tick s) := by
  rintro ⟨hq, hg, hw, hd, hl⟩
  refine ⟨⟨⟨hq.1, fun j => ?_⟩, ⟨fun j => ?_, ?_⟩, fun j hj => ?_, fun a ha => ?_, fun hne j => ?_,
    fun hj => hl.2 (by rwa [← tickT_isSome])⟩, fun ho => ownerInv_of_tagsKept (fun j hj => ?_) ho⟩
  · rw [tick_slot]; exact hq.2 j
  · rw [tick_slot]; exact hg.1 j
  · show (s.se.stroke.map Stroke.tick).map (·.slot) = s.arb.holder
    rw [Option.map_map]
    exact hg.2
  · rw [tick_slot] at hj ⊢
    exact hw j (by rwa [← tickT_isSome])
  · exact hd a fun k hk => ha k.tick (congrArg (Option.map Stroke.tick) hk)
  · rw [tick_slot]; exact hl.1 hne j
  · rw [tick_slot] at hj ⊢
    exact ⟨hj, rfl, rfl⟩

theorem step_laws {s t : State} (he : step s = .next t) : LawsKept s t := by
  have hr := lawsKept_commandReaction
  unfold step at he
  split at he
  · cases he
    exact tick_laws s
  · rename_i c rest _
    have haside : LawsKept s { s with pending := rest } := (LawfulStep.beside rfl rfl rfl rfl).laws
    exact haside.trans (hr.exec c { s with pending := rest } t he
      (fun _ l r u => startUp_of_resetBlocks hr l r u (resetBlocks_laws l r u))
      (fun _ record u => writeCompleted_of_recordRead hr
        (fun _ _ => (LawfulStep.beside rfl rfl rfl rfl).laws)
        (fun _ _ => (LawfulStep.beside rfl rfl rfl rfl).laws) record u))

/-- Settles O7: each reaction leaves the tables in agreement (`lawsKept_commandReaction`), and so does a
millisecond. -/
theorem stepKeepsMotionInvariant : Obligations.StepKeepsMotionInvariant :=
  fun _ _ hs he => (step_laws he hs).1

/-- Settles O8: only a Submit gives a slot an owner or a Tag, and R17 has refused the others. -/
theorem stepKeepsOwnerLaws : Obligations.StepKeepsOwnerLaws :=
  fun _ _ hm ho he => (step_laws he hm).2 ho

end Sys2Proof.Machine
end

section
/-! PROOFS. The step and the links: what a step runs, which requests are handed on, what an answer and a
notice change, and what a frame of another identifier is taken as. -/

namespace Sys2Proof.Machine

/-! ## The step -/

/-- Settles O1: the definition of the step, in the case of a command that waits. -/
theorem stepRunsTheFrontCommand : Obligations.StepRunsTheFrontCommand := by
  intro s c rest h
  rw [step, h]

/-- Settles O2: field by field, a millisecond changes the clock, the phase and the running timers. -/
theorem stepOnAnEmptyQueuePassesOneMillisecond :
    Obligations.StepOnAnEmptyQueuePassesOneMillisecond := by
  intro s h
  refine ⟨tick s, by rw [step, h], h, rfl, rfl, tick_slot s, rfl, fun z => ?_, rfl, rfl, fun a => ?_, rfl,
    rfl, fun z => ?_, rfl, rfl, rfl, rfl, rfl, rfl, rfl, rfl, rfl, rfl, rfl, rfl⟩
  all_goals simp [tick, tickLinks, tickDrive, tickBody, tickT]

theorem reset_slot (i : SlotId) : State.reset.slot i = Slot.empty := Vector.getElem_replicate _

/-- Settles O5: at reset every slot is FREE and every queue and table is empty. -/
theorem resetMeetsTheInvariants : Obligations.ResetMeetsTheInvariants := by
  have hnotices : NoticeInv State.reset :=
    ⟨fun c => (congrArg (fun x : Crew => x.queue.length) (Vector.getElem_replicate c.isLt)).le.trans
      (Nat.zero_le _), Nat.zero_le _⟩
  have howners : OwnerInv State.reset := by
    refine ⟨fun st => ?_, fun i _ hi => absurd (by rw [reset_slot]; rfl) hi⟩
    have hnone : ownedCount State.reset st = 0 := by
      simp [ownedCount, reset_slot, Slot.empty]
    omega
  refine ⟨hnotices, howners, ⟨List.nodup_nil, fun i => ?_⟩, ⟨fun i => ?_, rfl⟩, fun i hi => ?_,
    fun a _ => ?_, fun hl => absurd rfl hl, fun hd => by cases hd⟩
  · rw [reset_slot]; exact iff_of_false List.not_mem_nil nofun
  · rw [reset_slot]; exact iff_of_false nofun (by rintro (h | h) <;> cases h)
  · rw [reset_slot] at hi; cases hi
  · exact Vector.getElem_replicate _

/-! ## Requests and their links -/

/-- Every request goes over the link of its sender. -/
theorem exec_request {c : Instr} {src : Sender} (h : requestSender c = some src) :
    ∃ f : StationId → State → State, ∀ s, exec c s = .next (viaLink src f s) := by
  cases c <;> cases h <;> exact ⟨_, fun _ => rfl⟩

/-- Settles O9: each of the requests goes over its sender's link, which does not hand it on. -/
theorem requestNotHandedOnChangesNothing : Obligations.RequestNotHandedOnChangesNothing := by
  intro c src s hc hp hr
  obtain ⟨f, hf⟩ := exec_request hc
  rw [hf, viaLink_lost hp hr]

/-- The link closes a bare answer as `answered` says. -/
theorem viaLink_answered {src : Sender} {s : State} (h : Reaches src s) {f : StationId → State → State}
    {k : Byte} {c : Code} {r : Result}
    (hf : f (senderStation src) (requestTaken src s)
      = answer (senderStation src) k c r (requestTaken src s)) :
    viaLink src f s = answered src k c r s := by
  rw [viaLink_reaches h, hf]
  rfl

theorem viaLink_answerSlot {src : Sender} {s : State} (h : Reaches src s) {f : StationId → State → State}
    {k n : Byte} {c : Code} (hf : f (senderStation src) (requestTaken src s)
      = answerSlot (senderStation src) k c n (requestTaken src s)) :
    viaLink src f s = answered src k c (.slot n (namedTag s n)) s := by
  rw [viaLink_reaches h, hf, linkClosed_answerSlot]

/-! ## Questions -/

section Questions
variable (src : Sender) (s : State)

/-- The summary does not read what the link has recorded. -/
theorem summaryOf_requestTaken : summaryOf (requestTaken src s) = summaryOf s := by cases src <;> rfl

theorem confirmHeld_requestTaken (b : Block) : confirmHeld (requestTaken src s) b = confirmHeld s b := by
  unfold confirmHeld
  split
  · rename_i c _
    exact (congrArg Crew.enable (requestTaken_crew src s c) :)
  · rfl

/-- An eligible step is judged from the enables and from parts the link does not record. -/
theorem motionReason_requestTaken (x : Slot) (st : Step) (a : AxisId) :
    motionReason (requestTaken src s) x st a = motionReason s x st a := by
  have hmask : maskReason (requestTaken src s) x = maskReason s x := by cases src <;> rfl
  have hpermit : permitReason (requestTaken src s) x.block st a = permitReason s x.block st a := by
    unfold permitReason
    rw [confirmHeld_requestTaken]
    cases src <;> rfl
  rw [motionReason, hmask, hpermit]
  rfl

theorem waitReason_requestTaken (i : SlotId) : waitReason (requestTaken src s) i = waitReason s i := by
  have hwarn (a : AxisId) : warnReason (requestTaken src s) a = warnReason s a := by cases src <;> rfl
  simp only [waitReason, blockReason, motionReason_requestTaken, hwarn, requestTaken_slot,
    requestTaken_arb]

theorem reportOf_requestTaken (i : SlotId) : reportOf (requestTaken src s) i = reportOf s i := by
  have haxis (a : AxisId) : (requestTaken src s).axisPos a = s.axisPos a := by cases src <;> rfl
  have haxis' : (requestTaken src s).axisPos = s.axisPos := funext haxis
  simp only [reportOf, waitReason_requestTaken, slotStroke, requestTaken_slot, requestTaken_se, haxis']

end Questions

/-- Settles O23: each question places its answer and closes nothing. -/
theorem questionsOnlyAnswer : Obligations.QuestionsOnlyAnswer := by
  intro src s h
  refine ⟨fun i n hn => ?_, ?_, fun p hp => ?_, fun p first len hp => ?_⟩
  · rw [exec_interrogate, viaLink_answered h (f := takeInterrogate n) (k := 7) (c := .ok)]
    simp only [takeInterrogate, itemOf_number i hn, requestTaken_slot, reportOf_requestTaken]
    rfl
  · rw [exec_readStatus, viaLink_answered h (f := takeReadStatus) (k := 15) (c := .ok)]
    simp only [takeReadStatus, summaryOf_requestTaken, requestTaken_faults]
    rfl
  · rw [exec_readConfiguration, viaLink_answered h (f := takeReadConfiguration p) (k := 16)]
    simp only [takeReadConfiguration, hp]
    rfl
  · rw [exec_readConfiguration, viaLink_answered h (f := takeReadConfiguration p) (k := 16)]
    simp only [takeReadConfiguration, hp, requestTaken_store]
    rfl

/-! ## The end of a Poll and other identifiers -/

/-- Settles O55: the window starts at the end of the Poll, and only a Poll whose window has passed counts
a miss. -/
theorem pollEndOpensTheReplyWindow : Obligations.PollEndOpensTheReplyWindow := by
  intro s
  refine ⟨fun p hp hw => ?_, fun p hp hw => ?_, fun hnone => ⟨?_, fun frame => ?_⟩⟩
  · simp only [exec_pollEnd, hp, hw, Option.isSome_none, Bool.false_eq_true, if_false]
    rfl
  · have hnot : unanswered s = none := by simp [unanswered, hp, due, hw]
    rw [exec_replyWindowExpiry, hnot]
  · have hnot : unanswered s = none := by
      unfold awaiting at hnone
      unfold unanswered
      rw [Option.filter_eq_none_iff] at hnone ⊢
      intro p hp hd
      exact hnone p hp (due_isSome hd)
    rw [exec_replyWindowExpiry, hnot]
  · rw [exec_reply, hnone]

/-- A segment is a first segment by its index 0. -/
theorem takeSegment_eq (data : List Byte) :
    takeSegment data = if data.head? = some 0 then takeFirst data else takeData data := by
  funext s
  cases data with
  | nil => rfl
  | cons x rest =>
    have hx : u8 (x :: rest) 0 = 0 ↔ x = 0 := BitVec.toNat_inj (x := x) (y := 0)
    by_cases h0 : x = 0
    · rw [takeSegment, if_neg (by simp), if_pos (hx.mpr h0), if_pos (by rw [h0]; rfl)]
    · rw [takeSegment, if_neg (by simp), if_neg (mt hx.mp h0), if_neg (by simpa using h0)]

theorem exec_otherIdentifierFrame_awake {ident : CanIdent} {data : List Byte} {s : State}
    (hp : s.parked = false) : exec (.otherIdentifierFrame ident data) s
      = .next (match rxKind s.cfg ident with
        | some kind => takeFrame kind data s
        | none => s) := by
  have hexec := exec_otherIdentifierFrame ident data s
  rw [wake_awake hp] at hexec
  exact hexec

/-- Settles O59: the kind of a frame by its identifier, then the command of that kind. -/
theorem otherIdentifierIsDisregarded : Obligations.OtherIdentifierIsDisregarded := by
  intro ident data s hp
  rw [exec_otherIdentifierFrame_awake hp]
  refine ⟨fun hother => ?_, fun hx hr hv => ?_, fun hx hr hv => ?_, fun hx hr hv => ?_, fun hx hr hv => ?_⟩
  · have hkind : rxKind s.cfg ident = none := by
      unfold rxKind
      split
      · rfl
      · rename_i hxr
        simp only [Bool.or_eq_true, Bool.not_eq_true', not_or, Bool.not_eq_false,
          Bool.not_eq_true] at hxr
        rcases hother with hx | hr | hlow | hhigh
        · simp [hxr.1] at hx
        · simp [hxr.2] at hr
        · simp [show ident.value ≠ s.cfg.canBase by omega, show ident.value ≠ s.cfg.canBase + 1 by omega,
            show ident.value ≠ s.cfg.canBase + 2 by omega, show ident.value ≠ s.cfg.canBase + 3 by omega]
        · simp [show ident.value ≠ s.cfg.canBase by omega, show ident.value ≠ s.cfg.canBase + 1 by omega,
            show ident.value ≠ s.cfg.canBase + 2 by omega, show ident.value ≠ s.cfg.canBase + 3 by omega]
    rw [hkind]
  · have hkind : rxKind s.cfg ident = some .chassisStatus := by simp [rxKind, hx, hr, hv]
    rw [hkind, exec_chassisStatus, wake_awake hp]
    rfl
  · have hkind : rxKind s.cfg ident = some .cabPresence := by simp [rxKind, hx, hr, hv]
    rw [hkind, exec_cabPresence, wake_awake hp]
    rfl
  · have hkind : rxKind s.cfg ident = some .cabRequest := by simp [rxKind, hx, hr, hv]
    rw [hkind, exec_undecodableRequest]
    simp only [takeFrame, ifCab, viaLink, wake_awake hp, takeRaw, if_true]
  · have hkind : rxKind s.cfg ident = some .cabSegment := by simp [rxKind, hx, hr, hv]
    rw [hkind]
    simp only [takeFrame, takeSegment_eq]
    split
    · rw [exec_firstSegment, wake_awake hp]
    · rw [exec_dataSegment, wake_awake hp]

/-! ## Notices -/

theorem placeCrew_of_online {c : CrewId} {s : State} (h : s.crew[c].link = .online) (n : Notice) :
    placeCrew c n s = if s.crew[c].queue.length < 4 then
        modCrew c (fun x => { x with queue := x.queue ++ [(x.nextNum, n)], nextNum := x.nextNum + 1 }) s
      else report (.noticesLost (stationOf c))
        (modCrew c (fun x => { x with
          queue := x.queue.tail ++ [(x.nextNum, n)], nextNum := x.nextNum + 1 }) s) := by
  rw [placeCrew, if_neg (by simpa using h)]
  rfl

theorem place_stationOf (c : CrewId) (n : Notice) (s : State) :
    place (stationOf c) n s = placeCrew c n s := by
  rw [place, crewOf_stationOf]

theorem place_cab (n : Notice) (s : State) : place 0 n s = placeCab n s := by
  rw [place, crewOf_cab]

/-- Settles O11: each of the two queues, below its bound and at it. -/
theorem noticeIsQueuedOrDiscarded : Obligations.NoticeIsQueuedOrDiscarded := by
  intro n s
  refine ⟨fun c hc => ?_, fun c hc => ?_, fun hoff => ?_, fun hon hlen => ?_, fun hon hlen => ?_⟩
  · rw [place_stationOf, placeCrew_of_online hc]
    by_cases hlen : s.crew[c].queue.length < 4
    · simp only [if_pos hlen]
      exact ⟨by simp, fun d hd => by simp [upd_ne _ _ (Ne.symm hd)], rfl, rfl⟩
    · simp only [if_neg hlen]
      refine ⟨by simp, fun d hd => by simp [upd_ne _ _ (Ne.symm hd)], ?_, rfl⟩
      have hpos : (Flag.noticesLost (stationOf c)).position = 20 + c.val := by
        simp only [Flag.position, stationOf, Fin.val_succ]
        omega
      simp only [report_faults, modCrew_faults, raiseFlag, flagBit, hpos]
  · rw [place_stationOf, placeCrew, if_pos (by simpa using hc)]
  · rw [place_cab, placeCab, if_pos (by simp [hoff])]
  · rw [place_cab, placeCab, if_neg (by simp [hon])]
    cases hq : s.cab.queue with
    | nil => rfl
    | cons oldest rest =>
      rw [hq] at hlen
      dsimp only
      rw [if_pos (show _ < cabQueueMax from hlen)]
  · rw [place_cab, placeCab, if_neg (by simp [hon])]
    cases hq : s.cab.queue with
    | nil => simp [hq] at hlen
    | cons oldest rest =>
      rw [hq] at hlen
      dsimp only
      rw [if_neg (Nat.not_lt.mpr (show cabQueueMax ≤ _ from hlen))]
      exact ⟨rfl, rfl, rfl, rfl⟩

/-! ## Windows -/

/-- Settles O38: the two cases of the definition, by the bounds of a quotient. -/
theorem effectiveWindowsFitTheTravel : Obligations.EffectiveWindowsFitTheTravel := by
  intro ns nt d
  unfold effectiveWindows
  by_cases h : ns + nt ≤ d
  · simp only [if_pos h]
    exact ⟨fun _ => trivial, fun hlt => absurd h (by omega), by omega, by omega, h⟩
  · simp only [if_neg h]
    have hlt : d < ns + nt := by omega
    have hns : d * ns / (ns + nt) ≤ ns :=
      Nat.div_le_of_le_mul (Nat.mul_le_mul_right ns hlt.le)
    have hd : d * ns / (ns + nt) ≤ d := by
      refine Nat.div_le_of_le_mul ?_
      rw [Nat.mul_comm]
      exact Nat.mul_le_mul_right d (Nat.le_add_right ns nt)
    exact ⟨fun hle => absurd hle h, fun _ => ⟨trivial, by omega⟩, hns, hd, by omega⟩

end Sys2Proof.Machine
end

section
/-! PROOFS. The wake and the round of Polls: what the transmitter, the lamps and the Polls change, the
station a round goes to next, and the state a wake leaves (R168, R169, R146). -/

namespace Sys2Proof.Machine

/-! ## What the outputs and the links change -/

theorem sendNext_eq (s : State) : sendNext s = { s with tx := (sendNext s).tx } := by
  unfold sendNext
  repeat' split
  all_goals rfl

theorem relight_eq (s : State) : relight s = { s with bu := (relight s).bu } := rfl

theorem nextPoll_eq (s : State) : nextPoll s = { s with poll := (nextPoll s).poll } := by
  unfold nextPoll
  split
  · rfl
  · split <;> rfl

theorem ensurePolling_eq (s : State) : ensurePolling s = { s with poll := (ensurePolling s).poll } := by
  unfold ensurePolling
  split
  · rfl
  · exact nextPoll_eq s

theorem ensurePolling_idle {s : State} (h : s.poll.current = none) : ensurePolling s = nextPoll s := by
  rw [ensurePolling, h]

theorem ensurePolling_busy {s : State} (h : s.poll.current ≠ none) : ensurePolling s = s := by
  obtain ⟨p, hp⟩ := Option.ne_none_iff_exists'.mp h
  rw [ensurePolling, hp]

theorem relight_lamp (s : State) (b : BeaconId) :
    (relight s).bu.beacons[b.val].lamp = s.bu.beacons[b.val].lamp := by
  have hget : (relight s).bu.beacons[b.val] = Beacon.follow s b s.bu.beacons[b.val] :=
    mapBeacons_get (Beacon.follow s) s b
  rw [hget]
  unfold Beacon.follow
  split <;> rfl

/-! ## What the status summary reads -/

theorem summaryOf_relight (s : State) : summaryOf (relight s) = summaryOf s := by
  calc summaryOf (relight s)
      = { summaryOf s with lamps := allBeacons.map fun b => (relight s).bu.beacons[b.val].lamp } := rfl
    _ = summaryOf s := by simp only [relight_lamp]; rfl

theorem summaryOf_startWatchdogs (s : State) : summaryOf (startWatchdogs s) = summaryOf s := by
  have hsensor (a : AxisId) :
      ((startWatchdogs s).sensors[a.val]).state = (s.sensors[a.val]).state := by
    simp only [startWatchdogs, Vector.getElem_map]
    split <;> rfl
  calc summaryOf (startWatchdogs s)
      = { summaryOf s with axes := allAxes.map fun a =>
          if s.store.fault then some .unsynced
          else if (s.axisCfg a).present then some ((startWatchdogs s).sensors[a.val]).state
          else none } := rfl
    _ = summaryOf s := by simp only [hsensor]; rfl

theorem summaryOf_sendNext (s : State) : summaryOf (sendNext s) = summaryOf s := by
  rw [sendNext_eq]; rfl

theorem summaryOf_nextPoll (s : State) : summaryOf (nextPoll s) = summaryOf s := by
  rw [nextPoll_eq]; rfl

/-! ## The next Poll of a round (R146) -/

/-- In a sorted list the first entry with a property is the least. -/
theorem find?_of_least {n : Nat} {p : Fin n → Bool} {l : List (Fin n)} {c : Fin n}
    (hsorted : l.Pairwise (· < ·)) (hc : c ∈ l) (hp : p c = true) (hlow : ∀ d < c, p d = false) :
    l.find? p = some c := by
  induction l with
  | nil => cases hc
  | cons x l ih =>
    rcases List.mem_cons.mp hc with rfl | hc
    · simp [hp]
    · have hx : p x = false := hlow x (List.rel_of_pairwise_cons hsorted hc)
      simp [hx, ih (List.Pairwise.of_cons hsorted) hc]

theorem mem_allCrew (c : CrewId) : c ∈ allCrew := (by decide : ∀ c : CrewId, c ∈ allCrew) c

theorem find?_allCrew {p : CrewId → Bool} {c : CrewId} (hp : p c = true)
    (hlow : ∀ d < c, p d = false) : allCrew.find? p = some c :=
  find?_of_least (by decide) (mem_allCrew c) hp hlow

/-- The station that follows in the round is the one the Poll is sent to. -/
theorem nextStation_of_nextOfRound {s : State} {c : CrewId} (h : NextOfRound s s.poll.last c) :
    nextStation s = some c := by
  obtain ⟨hc, hround⟩ := h
  have hpolled : (s.crew[c].link != .absent) = true := by simpa using hc
  have hfirst (hlow : ∀ d : CrewId, d < c → s.crew[d].link = .absent) :
      (pollable s).head? = some c := by
    rw [pollable, List.head?_filter]
    exact find?_allCrew hpolled fun d hd => by simpa using hlow d hd
  unfold nextStation
  rcases hround with ⟨l, hl, hlc, hbetween⟩ | ⟨habove, hlow⟩
  · rw [hl]
    dsimp only
    have hnext : (pollable s).find? (fun c => decide (l < c)) = some c := by
      rw [pollable, List.find?_filter]
      refine find?_allCrew (by simpa [hlc] using hc) fun d hd => ?_
      by_cases hld : l < d
      · simpa [hld] using hbetween d hld hd
      · simp [hld]
    rw [hnext]
    rfl
  · cases hl : s.poll.last with
    | none => exact hfirst hlow
    | some l =>
      dsimp only
      have hnone : (pollable s).find? (fun c => decide (l < c)) = none := by
        rw [pollable, List.find?_filter, List.find?_eq_none]
        intro d _
        by_cases hld : l < d
        · simpa [hld] using habove l d hl hld
        · simp [hld]
      rw [hnone]
      exact hfirst hlow

theorem nextStation_none {s : State} (h : ∀ c : CrewId, s.crew[c].link = .absent) :
    nextStation s = none := by
  have hnone : pollable s = [] := by
    rw [pollable, List.filter_eq_nil_iff]
    intro c _
    simpa using h c
  unfold nextStation
  split <;> rw [hnone] <;> rfl

/-- The Poll that is sent is the one R146 says follows. -/
theorem pollFollows_nextPoll (s : State) : PollFollows s.poll.last (nextPoll s) := by
  have hcrew : (nextPoll s).crew = s.crew := by rw [nextPoll_eq]
  have hparked : (nextPoll s).parked = s.parked := by rw [nextPoll_eq]; rfl
  refine ⟨fun hp => ?_, fun hall => ?_, fun c hp hround => ?_⟩
  · rw [hparked] at hp
    rw [nextPoll, if_pos hp]
  · simp only [hcrew] at hall
    unfold nextPoll
    split
    · rfl
    · rw [nextStation_none hall]
  · rw [hparked] at hp
    simp only [NextOfRound, hcrew] at hround
    rw [summaryOf_nextPoll, hcrew]
    simp only [nextPoll, hp, nextStation_of_nextOfRound hround, Bool.false_eq_true, if_false]
    rfl

theorem PollFollows.congr {last : Option CrewId} {s t : State} (h : PollFollows last s)
    (hp : t.poll = s.poll) (hparked : t.parked = s.parked) (hc : t.crew = s.crew)
    (hs : summaryOf t = summaryOf s) : PollFollows last t := by
  simpa only [PollFollows, NextOfRound, hp, hparked, hc, hs] using h

/-! ## The wake (R169) -/

/-- The state in which the first Poll after a wake is built. -/
def roundOpened (s : State) : State :=
  { s with
    sup := { s.sup with
      power := if runCondition s then .run else .standby
      standbyT := if runCondition s then none else some standbyMs }
    poll := { s.poll with last := none } }

/-- The state in which the transmitter is handed the Part Status of a wake. -/
def statusDue (s : State) : State :=
  { s with tx := { s.tx with due := true, periodT := some partStatusMs } }

theorem wake_of_parked {s : State} (h : s.parked = true) :
    wake s = sendNext (relight (startWatchdogs (statusDue (ensurePolling (roundOpened s))))) := by
  rw [wake, if_pos h]
  by_cases hr : runCondition s = true <;> simp [roundOpened, statusDue, hr]

theorem summaryOf_statusDue (s : State) : summaryOf (statusDue s) = summaryOf s := rfl

/-- A wake changes the power state, the Polls, the transmitter, the watchdogs and the lamps. -/
theorem wake_eq (s : State) : wake s = { s with
    sup := (wake s).sup
    poll := (wake s).poll
    tx := (wake s).tx
    sensors := (wake s).sensors
    bu := (wake s).bu } := by
  cases h : s.parked with
  | false => rw [wake_awake h]
  | true =>
    rw [wake_of_parked h, sendNext_eq, relight_eq, ensurePolling_eq]
    rfl

section Fields
variable (s : State)
@[simp] theorem wake_sm : (wake s).sm = s.sm := by rw [wake_eq]
@[simp] theorem wake_zt : (wake s).zt = s.zt := by rw [wake_eq]
@[simp] theorem wake_arb : (wake s).arb = s.arb := by rw [wake_eq]
@[simp] theorem wake_se : (wake s).se = s.se := by rw [wake_eq]
@[simp] theorem wake_loop : (wake s).loop = s.loop := by rw [wake_eq]
@[simp] theorem wake_faults : (wake s).faults = s.faults := by rw [wake_eq]
@[simp] theorem wake_crew : (wake s).crew = s.crew := by rw [wake_eq]
@[simp] theorem wake_veh : (wake s).veh = s.veh := by rw [wake_eq]
@[simp] theorem wake_cab : (wake s).cab = s.cab := by rw [wake_eq]
@[simp] theorem wake_lines : (wake s).lines = s.lines := by rw [wake_eq]
@[simp] theorem wake_cfg : (wake s).cfg = s.cfg := by rw [wake_eq]
@[simp] theorem wake_store : (wake s).store = s.store := by rw [wake_eq]
end Fields

theorem wake_sup {s : State} (h : s.parked = true) : (wake s).sup = (roundOpened s).sup := by
  rw [wake_of_parked h, sendNext_eq, relight_eq, ensurePolling_eq]
  rfl

theorem wake_parked (s : State) : (wake s).parked = false := by
  cases h : s.parked with
  | false => rw [wake_awake h, h]
  | true =>
    rw [State.parked, wake_sup h, roundOpened]
    cases runCondition s <;> rfl

theorem wake_wake (s : State) : wake (wake s) = wake s := wake_awake (wake_parked s)

/-- The first Poll, the first Part Status and the final state report the same summary. -/
theorem summaryOf_wake {s : State} (h : s.parked = true) :
    summaryOf (wake s) = summaryOf (ensurePolling (roundOpened s)) := by
  rw [wake_of_parked h, summaryOf_sendNext, summaryOf_relight, summaryOf_startWatchdogs,
    summaryOf_statusDue]

theorem wake_poll {s : State} (h : s.parked = true) :
    (wake s).poll = (ensurePolling (roundOpened s)).poll := by
  rw [wake_of_parked h, sendNext_eq, relight_eq]
  rfl

theorem wake_pollFollows {s : State} (h : s.parked = true) (hidle : s.poll.current = none) :
    PollFollows none (wake s) := by
  have hopen : (roundOpened s).poll.current = none := hidle
  have hfollows := pollFollows_nextPoll (roundOpened s)
  rw [← ensurePolling_idle hopen] at hfollows
  refine hfollows.congr (wake_poll h) ?_ ?_ (summaryOf_wake h)
  · rw [State.parked, wake_sup h, ensurePolling_eq]
    rfl
  · rw [wake_crew, ensurePolling_eq]
    rfl

theorem wake_tx {s : State} (h : s.parked = true) :
    (wake s).tx = (sendNext (relight (startWatchdogs (statusDue (ensurePolling (roundOpened s)))))).tx :=
  congrArg State.tx (wake_of_parked h)

theorem sendNext_busy {s : State} (h : s.tx.run ≠ none) : sendNext s = s := by
  obtain ⟨r, hr⟩ := Option.ne_none_iff_exists'.mp h
  rw [sendNext, hr]

theorem sendNext_due {s : State} (h : s.tx.run = none) (hd : s.tx.due = true) (hp : s.parked = false) :
    sendNext s = beginPartStatus s := by
  rw [sendNext, h]
  simp [hd, hp]

/-- The state in which the transmitter begins the Part Status of a wake, read field by field. -/
theorem statusDue_tx (s : State) :
    (relight (startWatchdogs (statusDue (ensurePolling (roundOpened s))))).tx
      = { s.tx with due := true, periodT := some partStatusMs } := by
  rw [relight_eq, ensurePolling_eq]
  rfl

theorem wake_tx_idle {s : State} (h : s.parked = true) (hrun : s.tx.run = none) :
    (wake s).tx = { s.tx with
      run := some (TxRun.mk (.partStatus (summaryOf (wake s)) s.zt.driveOff s.faults) s.tx.count
        s.cfg.canBase 0 false)
      due := false, count := s.tx.count + 1, periodT := some 200 } := by
  have hparked := wake_parked s
  have hsum := summaryOf_wake h
  have htx := statusDue_tx s
  rw [wake_of_parked h] at hparked
  rw [wake_tx h, hsum]
  rw [← summaryOf_statusDue, ← summaryOf_startWatchdogs, ← summaryOf_relight]
  have hzt : (relight (startWatchdogs (statusDue (ensurePolling (roundOpened s))))).zt = s.zt := by
    rw [relight_eq, ensurePolling_eq]; rfl
  have hfaults : (relight (startWatchdogs (statusDue (ensurePolling (roundOpened s))))).faults
      = s.faults := by rw [relight_eq, ensurePolling_eq]; rfl
  have hcfg : (relight (startWatchdogs (statusDue (ensurePolling (roundOpened s))))).cfg = s.cfg := by
    rw [relight_eq, ensurePolling_eq]; rfl
  generalize relight (startWatchdogs (statusDue (ensurePolling (roundOpened s)))) = v at *
  have hparked' : v.parked = false := by
    rw [sendNext_eq] at hparked; exact hparked
  rw [sendNext_due (by rw [htx]; exact hrun) (by rw [htx]) hparked']
  simp only [beginPartStatus, htx, hzt, hfaults, hcfg]
  rfl

theorem wake_tx_busy {s : State} (h : s.parked = true) (hrun : s.tx.run ≠ none) :
    (wake s).tx = { s.tx with due := true, periodT := some 200 } := by
  rw [wake_tx h, sendNext_busy (by rw [statusDue_tx]; exact hrun), statusDue_tx]
  rfl

theorem wake_sensor {s : State} (h : s.parked = true) (a : AxisId) :
    (wake s).sensors[a] = { s.sensors[a] with
      watchdog := if s.sensors[a].state = .valid then some 50 else s.sensors[a].watchdog } := by
  have hsensors : (wake s).sensors = s.sensors.map fun x =>
      if x.state = .valid then { x with watchdog := some watchdogMs } else x := by
    rw [wake_of_parked h, sendNext_eq, relight_eq, ensurePolling_eq]
    rfl
  simp only [hsensors, Fin.getElem_fin, Vector.getElem_map]
  split <;> rfl

/-- A request of the cab wakes the part before it is handed on. -/
theorem viaLink_cab_wake (f : StationId → State → State) (s : State) :
    viaLink .cab f (wake s) = viaLink .cab f s := by
  have honline : (wake s).cabOnline = s.cabOnline := by rw [State.cabOnline, wake_cab]; rfl
  simp only [viaLink, wake_wake, honline]

/-- In PARKED a frame on the CAN bus is taken as after the wake. -/
theorem exec_canFrame_wake {c : Instr} (hc : canFrame c = true) (s : State) :
    exec c s = exec c (wake s) := by
  have hrequest (h : requestSender c = some .cab) : exec c s = exec c (wake s) := by
    obtain ⟨f, hf⟩ := exec_request h
    rw [hf, hf, viaLink_cab_wake]
  unfold canFrame at hc
  split at hc
  · rw [exec_chassisStatus, exec_chassisStatus, wake_wake]
  · rw [exec_cabPresence, exec_cabPresence, wake_wake]
  · rw [exec_firstSegment, exec_firstSegment, wake_wake]
  · rw [exec_dataSegment, exec_dataSegment, wake_wake]
  · rw [exec_otherIdentifierFrame, exec_otherIdentifierFrame, wake_wake, wake_cfg]
  · exact hrequest (by simpa using hc)

/-- Settles O10: the wake step by step (`wake_of_parked`), and the commands that begin with it. -/
theorem wakeLeavesParkedBeforeTheFrame : Obligations.WakeLeavesParkedBeforeTheFrame := by
  intro s
  refine ⟨fun c _ hc => exec_canFrame_wake hc s, fun ch closed _ => ?_, fun d made _ => ?_, rfl,
    wake_awake, fun h => ⟨wake_sup h, wake_pollFollows h, fun hbusy => ?_, wake_tx_idle h,
      wake_tx_busy h, wake_sensor h, wake_sm s, wake_zt s, wake_arb s, wake_se s, wake_loop s,
      wake_faults s, wake_crew s, wake_veh s, wake_cab s, wake_lines s, wake_cfg s, wake_store s⟩⟩
  · rename_i hreads
    rw [exec_channelChange, exec_channelChange, wake_wake, wake_loop, if_neg hreads, if_neg hreads]
  · rename_i hreads
    rw [exec_latchSwitchChange, exec_latchSwitchChange, wake_wake, wake_lines, if_neg hreads,
      if_neg hreads]
  · rw [wake_poll h, ensurePolling_busy (s := roundOpened s) hbusy]
    rfl

end Sys2Proof.Machine
end

section
/-! PROOFS. Steps that begin and complete (R26 to R32, R40): what each operation on a slot leaves in it, in
the queue and in the notice queues; `StepBegins` of every step that becomes current and `StepCompletes` of
every step that completes, and the two statements on them. -/

namespace Sys2Proof.Machine

/-! ## What a step's judgement reads -/

/-- The masks and the zone permit read the Class, the owner and the confirm station of a slot, and of the
state what the operations on slots leave alone. -/
theorem motionReason_congr {s t : State} (h : Keeps s t)
    (hpump : t.arb.pump = .fault ↔ s.arb.pump = .fault) (hpermit : t.zt.permitT = s.zt.permitT)
    {x y : Slot} (hblock : y.block = x.block) (howner : y.owner = x.owner) (st : Step) (a : AxisId) :
    motionReason t y st a = motionReason s x st a := by
  have hpos (b : AxisId) : t.axisPos b = s.axisPos b := by simp only [State.axisPos, h.sensors]
  have hmask : maskReason t y = maskReason s x := by
    simp only [maskReason, holdMasks, h.hold, h.supply, h.cfg, hblock, howner, hpump]
    rfl
  have hconflict (p q : Nat) : conflictFails t a p q = conflictFails s a p q := by
    have hentry (d : Dir) : entryForbids t a d = entryForbids s a d := by
      funext e
      simp only [entryForbids, State.axisCfg, h.cfg, hpos]
    simp only [conflictFails, h.cfg, hentry]
  have hconfirm : confirmHeld t y.block = confirmHeld s x.block := by
    simp only [confirmHeld, hblock, h.enable]
  have hvehicle : vehicleOk t = vehicleOk s := by simp only [vehicleOk, State.fresh, h.veh]
  have hpermitted : permitReason t y.block st a = permitReason s x.block st a := by
    unfold permitReason
    rw [hvehicle, hpos, hconfirm]
    simp only [hconflict, trafficFails, blockedFails, zoneClosed, State.axisZone, State.axisCfg, h.cfg,
      h.blocks, hpermit]
    rfl
  rw [motionReason, hmask, hpermitted]
  rfl

theorem checkReason_congr {s t : State} (h : Keeps s t)
    (hpump : t.arb.pump = .fault ↔ s.arb.pump = .fault) (hpermit : t.zt.permitT = s.zt.permitT)
    {x y : Slot} (hblock : y.block = x.block) (howner : y.owner = x.owner) (st : Step) :
    checkReason t y st = checkReason s x st := by
  unfold checkReason
  split
  · exact motionReason_congr h hpump hpermit hblock howner st _
  · rfl

/-! ## The notices about a slot -/

theorem toldStarted_same {s t : State} (h : SameNotices s t) (i : SlotId) (x : Slot) (st : Step) :
    SameNotices (toldStarted i x st s) (toldStarted i x st t) := by
  unfold toldStarted
  split
  · exact h.place _ _
  · exact h

theorem toldPaused_same {s t : State} (h : SameNotices s t) (i : SlotId) (x : Slot) (c : PauseCause) :
    SameNotices (toldPaused i x c s) (toldPaused i x c t) := by
  unfold toldPaused
  dsimp only
  split
  · exact h.place _ _
  · split
    · exact h.place _ _
    · exact (h.place _ _).place _ _

/-- "Step started" changes only the notices. -/
theorem toldStarted_eq (i : SlotId) (x : Slot) (st : Step) (s : State) : toldStarted i x st s = { s with
    crew := (toldStarted i x st s).crew
    cab := (toldStarted i x st s).cab
    tx := { s.tx with run := (toldStarted i x st s).tx.run }
    faults := (toldStarted i x st s).faults } := by
  unfold toldStarted
  split
  · exact place_eq _ _ s
  · rfl

section ToldStarted
variable (i : SlotId) (x : Slot) (st : Step) (s : State)
@[simp] theorem toldStarted_sm : (toldStarted i x st s).sm = s.sm := by rw [toldStarted_eq]
@[simp] theorem toldStarted_arb : (toldStarted i x st s).arb = s.arb := by rw [toldStarted_eq]
@[simp] theorem toldStarted_zt : (toldStarted i x st s).zt = s.zt := by rw [toldStarted_eq]
@[simp] theorem toldStarted_se : (toldStarted i x st s).se = s.se := by rw [toldStarted_eq]
@[simp] theorem toldStarted_slot (j : SlotId) : (toldStarted i x st s).slot j = s.slot j :=
  slot_congr (by rw [toldStarted_sm]) j
theorem toldStarted_keeps : Keeps s (toldStarted i x st s) := by
  unfold toldStarted
  split
  · exact place_keeps _ _ s
  · exact .refl s
end ToldStarted

/-! ## Pauses and entries into the queue -/

section Operations
variable (i : SlotId) (s : State)

/-- A slot that pauses tells its owner and its confirm station (R27). -/
theorem pauseSlot_eq (c : PauseCause) : pauseSlot i c s
    = toldPaused i (s.slot i) c (modSlot i
        (fun x => { x with state := .paused, pauseCause := some c, ownerLost := false }) s) := by
  have hself := slot_modSlot_same i
    (fun x => { x with state := .paused, pauseCause := some c, ownerLost := false }) s
  unfold pauseSlot pausedNotice toldPaused progress
  cases hc : (s.slot i).block.confirm with
  | none => simp only [hself, hc]
  | some k => simp only [hself, place_slot, hc]

/-- The "paused" notices change only the notices. -/
theorem toldPaused_sm (x : Slot) (c : PauseCause) : (toldPaused i x c s).sm = s.sm := by
  unfold toldPaused
  dsimp only
  split
  · simp
  · split <;> simp

theorem pauseSlot_slot_same (c : PauseCause) : (pauseSlot i c s).slot i
    = { s.slot i with state := .paused, pauseCause := some c, ownerLost := false } := by
  rw [pauseSlot_eq, slot_congr (congrArg SeqManager.slots (toldPaused_sm i _ _ c)) i, slot_modSlot_same]

theorem pauseSlot_queue (c : PauseCause) : (pauseSlot i c s).sm.queue = s.sm.queue := by
  rw [pauseSlot_eq, toldPaused_sm]
  rfl

theorem pauseSlot_notices (c : PauseCause) :
    SameNotices (toldPaused i (s.slot i) c s) (pauseSlot i c s) := by
  rw [pauseSlot_eq]
  exact toldPaused_same (s := s) (t := modSlot i _ s) ⟨rfl, rfl⟩ _ _ _

theorem enqueue_slot_same (front : Bool) : (enqueue front i s).slot i
    = { s.slot i with state := .queued, pauseCause := none } := slot_modSlot_same i _ _

theorem enqueue_queue (front : Bool) : (enqueue front i s).sm.queue
    = if front then insertFront s i s.sm.queue else s.sm.queue ++ [i] := rfl

end Operations

/-- The queue is entered by the Classes of the slots (R24). -/
theorem insertFront_congr {s t : State} (h : ∀ j, (t.slot j).block.cls = (s.slot j).block.cls)
    (i : SlotId) (q : List SlotId) : insertFront t i q = insertFront s i q := by
  induction q with
  | nil => rfl
  | cons j q ih => simp only [insertFront, h, ih]

/-! ## A step that becomes current -/

/-- What a step begins with is read from the notices, the queue and the Classes of the slots. -/
theorem StepBegins.congr {s t u : State} {i : SlotId} {x : Slot} {st : Step} {chained : Bool}
    (h : StepBegins s i x st chained u) (hn : SameNotices s t) (hq : t.sm.queue = s.sm.queue)
    (hcls : ∀ j, (t.slot j).block.cls = (s.slot j).block.cls) : StepBegins t i x st chained u := by
  obtain ⟨hlost, hpause, hmove, hdwell⟩ := h
  refine ⟨fun hl => ?_, fun hl hp => ?_, fun hl hp hm => ?_, fun hl hp hd => ?_⟩
  · obtain ⟨hslot, hqueue, hsame⟩ := hlost hl
    exact ⟨hslot, hqueue.trans hq.symm, (toldPaused_same hn.symm _ _ _).trans hsame⟩
  · obtain ⟨hslot, hqueue, hsame⟩ := hpause hl hp
    exact ⟨hslot, hqueue.trans hq.symm, (toldPaused_same hn.symm _ _ _).trans hsame⟩
  · obtain ⟨hslot, hqueue, hsame⟩ := hmove hl hp hm
    refine ⟨hslot, ?_, (toldStarted_same hn.symm _ _ _).trans hsame⟩
    rw [hqueue, hq, insertFront_congr hcls]
  · obtain ⟨hslot, hqueue, hsame⟩ := hdwell hl hp hd
    exact ⟨hslot, hqueue.trans hq.symm, (toldStarted_same hn.symm _ _ _).trans hsame⟩

theorem StepCompletes.congr {s t u : State} {i : SlotId} {x : Slot} {st : Step}
    (h : StepCompletes s i x st u) (hn : SameNotices s t) (hq : t.sm.queue = s.sm.queue)
    (hcls : ∀ j, (t.slot j).block.cls = (s.slot j).block.cls) : StepCompletes t i x st u := by
  obtain ⟨hlast, hnext, huncleared, hpass⟩ := h
  refine ⟨hlast, fun nxt hc hx => (hnext nxt hc hx).congr hn hq hcls, huncleared,
    fun first hc hr hf hx => (hpass first hc hr hf hx).congr (hn.place _ _) ?_ fun j => ?_⟩
  · simpa using hq
  · simpa using hcls j

/-- A slot's record without its interrupted mark (R27). -/
def Slot.unmarked (x : Slot) : Slot := { x with interrupted := false }

/-- The state with a slot's interrupted mark cleared (R27). -/
def unmark (i : SlotId) (s : State) : State := modSlot i Slot.unmarked s

theorem unmark_slot (i : SlotId) (s : State) : (unmark i s).slot i = (s.slot i).unmarked :=
  slot_modSlot_same i _ s

theorem unmark_cls (i : SlotId) (s : State) (j : SlotId) :
    ((unmark i s).slot j).block.cls = (s.slot j).block.cls := by
  rw [unmark, slot_modSlot]
  split <;> rfl

theorem becomeCurrent_ownerLost (n : Nat) {i : SlotId} {chained : Bool} {s : State}
    (h : (s.slot i).ownerLost = true) :
    becomeCurrent (n + 1) i chained s = pauseSlot i .ownerLost (unmark i s) := by
  have hlost : ((unmark i s).slot i).ownerLost = true := by rw [unmark_slot]; exact h
  exact if_pos hlost

theorem becomeCurrent_pause (n : Nat) {i : SlotId} {chained : Bool} {s : State}
    (h : (s.slot i).ownerLost = false) (hp : (s.slot i).stepHas (·.pause) = true) :
    becomeCurrent (n + 1) i chained s = pauseSlot i .step (unmark i s) := by
  have hlost : ¬ ((unmark i s).slot i).ownerLost = true := by
    rw [unmark_slot]; exact fun h' => absurd (h.symm.trans h') nofun
  have hpause : ((unmark i s).slot i).stepHas (·.pause) = true := by rw [unmark_slot]; exact hp
  exact (if_neg hlost).trans (if_pos hpause)

theorem becomeCurrent_start (n : Nat) {i : SlotId} {chained : Bool} {s : State}
    (h : (s.slot i).ownerLost = false) (hp : (s.slot i).stepHas (·.pause) = false) :
    becomeCurrent (n + 1) i chained s = startStep (becomeCurrent n) i chained (unmark i s) := by
  have hlost : ¬ ((unmark i s).slot i).ownerLost = true := by
    rw [unmark_slot]; exact fun h' => absurd (h.symm.trans h') nofun
  have hpause : ¬ ((unmark i s).slot i).stepHas (·.pause) = true := by
    rw [unmark_slot]; exact fun h' => absurd (hp.symm.trans h') nofun
  exact (if_neg hlost).trans (if_neg hpause)

section StartStep
variable {next : SlotId → Bool → State → State} {i : SlotId} {chained : Bool} {s : State} {st : Step}
  (hst : (s.slot i).curStep = some st)
include hst

theorem startStep_move (ha : st.action = .move) : startStep next i chained s
    = enqueue (chained || (s.slot i).interrupted) i (toldStarted i (s.slot i) st s) := by
  have hslot : (toldStarted i (s.slot i) st s).slot i = s.slot i := toldStarted_slot _ _ _ _ _
  rw [← congrArg Slot.interrupted hslot]
  simp only [startStep, hst, ha]
  rfl

theorem startStep_dwell (ha : st.action = .dwell) : startStep next i chained s
    = modSlot i (fun x => { x with
        state := .dwelling, pauseCause := none, dwellT := some (st.dwell * 100) })
      (toldStarted i (s.slot i) st s) := by
  simp only [startStep, hst, ha]
  rfl

theorem startStep_check (ha : st.action = .check) : startStep next i chained s
    = match checkReason s (s.slot i) st with
      | none => completeStep next i (toldStarted i (s.slot i) st s)
      | some r => seqEnd i .checkFailed (some r) (toldStarted i (s.slot i) st s) := by
  have hslot : (toldStarted i (s.slot i) st s).slot i = s.slot i := toldStarted_slot _ _ _ _ _
  have hreason : checkReason (toldStarted i (s.slot i) st s) ((toldStarted i (s.slot i) st s).slot i) st
      = checkReason s (s.slot i) st := by
    rw [hslot]
    exact checkReason_congr (toldStarted_keeps _ _ _ _) (by rw [toldStarted_arb])
      (by rw [toldStarted_zt]) rfl rfl st
  rw [← hreason]
  simp only [startStep, hst, ha]
  rfl

end StartStep

/-- What a step that becomes current does in each case of R27. The record `x` is that of the slot up to its
interrupted mark, which is cleared. -/
theorem becomeCurrent_begins (n : Nat) {i : SlotId} {chained : Bool} {s : State} {x : Slot} {st : Step}
    (hx : (s.slot i).unmarked = x.unmarked) (hst : x.curStep = some st) :
    StepBegins s i x st chained (becomeCurrent (n + 1) i chained s) := by
  have hself : (unmark i s).slot i = x.unmarked := (unmark_slot i s).trans hx
  have hlost : (s.slot i).ownerLost = x.ownerLost := (congrArg Slot.ownerLost hx :)
  have hblock : (s.slot i).block = x.block := (congrArg Slot.block hx :)
  have hindex : (s.slot i).step = x.step := (congrArg Slot.step hx :)
  have hcur : (s.slot i).curStep = some st := by
    rw [← hst, Slot.curStep, hblock, hindex]; rfl
  have hhas : (s.slot i).stepHas (·.pause) = st.pause := by simp only [Slot.stepHas, hcur]
  have hcur' : ((unmark i s).slot i).curStep = some st := by rw [hself]; exact hst
  have hsame : SameNotices s (unmark i s) := ⟨rfl, rfl⟩
  have htold : SameNotices (toldStarted i x st s) (toldStarted i ((unmark i s).slot i) st (unmark i s)) := by
    rw [hself]; exact toldStarted_same hsame i x.unmarked st
  have hpaused (c : PauseCause) :
      SameNotices (toldPaused i x c s) (toldPaused i ((unmark i s).slot i) c (unmark i s)) := by
    rw [hself]; exact toldPaused_same hsame i x.unmarked c
  refine ⟨fun hl => ?_, fun hl hp => ?_, fun hl hp ha => ?_, fun hl hp ha => ?_⟩
  · rw [becomeCurrent_ownerLost n (hlost.trans hl)]
    refine ⟨by rw [pauseSlot_slot_same, hself]; rfl, pauseSlot_queue _ _ _, ?_⟩
    exact (hpaused .ownerLost).trans (pauseSlot_notices i (unmark i s) .ownerLost)
  · rw [becomeCurrent_pause n (hlost.trans hl) (hhas.trans hp)]
    refine ⟨?_, pauseSlot_queue _ _ _, ?_⟩
    · rw [pauseSlot_slot_same, hself, Slot.unmarked, hl]
    · exact (hpaused .step).trans (pauseSlot_notices i (unmark i s) .step)
  · rw [becomeCurrent_start n (hlost.trans hl) (hhas.trans hp), startStep_move hcur' ha]
    have hmark : ((unmark i s).slot i).interrupted = false := by rw [hself]; rfl
    refine ⟨?_, ?_, htold⟩
    · rw [enqueue_slot_same, toldStarted_slot, hself]; rfl
    · rw [enqueue_queue, hmark, Bool.or_false, toldStarted_sm,
        insertFront_congr (s := s) fun j => by rw [toldStarted_slot]; exact unmark_cls i s j]
      rfl
  · rw [becomeCurrent_start n (hlost.trans hl) (hhas.trans hp), startStep_dwell hcur' ha]
    refine ⟨?_, by simp [unmark], htold⟩
    rw [slot_modSlot_same, toldStarted_slot, hself]; rfl

/-! ## A step that completes -/

/-- The record after the end of a sequence does not read the interrupted mark. -/
theorem endedRecord_unmarked (c : EndCause) (w : Option WaitReason) (x : Slot) :
    endedRecord c w x.unmarked = endedRecord c w x := by
  unfold endedRecord
  split
  · rename_i h; rw [if_pos (show x.block.rep = .once from h)]
  · rename_i h; rw [if_neg (show ¬ x.block.rep = .once from h)]; rfl

theorem endingSlot_ne {i : SlotId} {s : State} (h : s.arb.holder ≠ some i) :
    endingSlot i s = s.slot i := if_neg h

/-- The step without C of a sequence that is not CYCLE ends it NORMAL (R32). -/
theorem completeStep_last {next : SlotId → Bool → State → State} {i : SlotId} {s : State} {st : Step}
    (hst : (s.slot i).curStep = some st) (hc : st.chain = false) (hr : (s.slot i).block.rep ≠ .cycle) :
    completeStep next i s = seqEnd i .normal none
      (modSlot i (fun x => { x with passCount := satInc 65535 x.passCount }) s) := by
  have hchain : (s.slot i).stepHas (·.chain) = false := by simpa only [Slot.stepHas, hst] using hc
  rw [completeStep, if_neg (by simp [hchain]), if_neg hr]

theorem completeStep_chained {next : SlotId → Bool → State → State} {i : SlotId} {s : State} {st : Step}
    (hst : (s.slot i).curStep = some st) (hc : st.chain = true) :
    completeStep next i s = next i true (modSlot i (fun x => { x with step := x.step + 1 }) s) := by
  have hchain : (s.slot i).stepHas (·.chain) = true := by simpa only [Slot.stepHas, hst] using hc
  rw [completeStep, if_pos hchain]

theorem completeStep_passEnd {next : SlotId → Bool → State → State} {i : SlotId} {s : State} {st : Step}
    (hst : (s.slot i).curStep = some st) (hc : st.chain = false) (hr : (s.slot i).block.rep = .cycle) :
    completeStep next i s = passEnd next i s := by
  have hchain : (s.slot i).stepHas (·.chain) = false := by simpa only [Slot.stepHas, hst] using hc
  rw [completeStep, if_neg (by simp [hchain]), if_pos hr]

/-- The state after a pass whose flag was clear: the pass is counted, the flag set and the owner told, and
step 1 is to become current (R40). -/
def passCounted (i : SlotId) (s : State) : State :=
  let s := modSlot i (fun x => { x with passCount := satInc 65535 x.passCount }) s
  let s := modSlot i (fun x => { x with flag := true }) s
  let s := progress (s.slot i).owner i (.passEnded (s.slot i).passCount) s
  modSlot i (fun x => { x with step := 1 }) s

theorem passEnd_clear (next : SlotId → Bool → State → State) {i : SlotId} {s : State}
    (hf : (s.slot i).flag = false) : passEnd next i s = next i false (passCounted i s) := by
  unfold passEnd passCounted
  dsimp only
  rw [if_neg (by simp [hf])]

theorem passEnd_set (next : SlotId → Bool → State → State) {i : SlotId} {s : State}
    (hf : (s.slot i).flag = true) : passEnd next i s = seqEnd i .passUncleared none
      (modSlot i (fun x => { x with passCount := satInc 65535 x.passCount }) s) := by
  unfold passEnd
  dsimp only
  rw [if_pos (by simp [hf])]

theorem passCounted_slot (i : SlotId) (s : State) : (passCounted i s).slot i
    = { s.slot i with flag := true, passCount := satInc 65535 (s.slot i).passCount, step := 1 } := by
  simp [passCounted, progress]

theorem passCounted_queue (i : SlotId) (s : State) : (passCounted i s).sm.queue = s.sm.queue := by
  simp [passCounted, progress]

theorem passCounted_cls (i : SlotId) (s : State) (j : SlotId) :
    ((passCounted i s).slot j).block.cls = (s.slot j).block.cls := by
  simp only [passCounted, progress, slot_modSlot, place_slot]
  repeat' split
  all_goals rfl

theorem passCounted_notices (i : SlotId) (s : State) : SameNotices
    (place (s.slot i).owner (.progress i (s.slot i).block.tag (s.slot i).step
      (.passEnded (satInc 65535 (s.slot i).passCount))) s) (passCounted i s) := by
  simp only [passCounted, progress, slot_modSlot_same]
  exact SameNotices.place (s := s) (t := modSlot i _ (modSlot i _ s)) ⟨rfl, rfl⟩ _ _

/-- What the normal completion of a step does in each case of R32 and R40. -/
theorem completeStep_completes (n : Nat) {i : SlotId} {s : State} {x : Slot} {st : Step}
    (hx : (s.slot i).unmarked = x.unmarked) (hst : x.curStep = some st) (hh : s.arb.holder ≠ some i) :
    StepCompletes s i x st (completeStep (becomeCurrent (n + 1)) i s) := by
  have hblock : (s.slot i).block = x.block := (congrArg Slot.block hx :)
  have hindex : (s.slot i).step = x.step := (congrArg Slot.step hx :)
  have hflag : (s.slot i).flag = x.flag := (congrArg Slot.flag hx :)
  have howner : (s.slot i).owner = x.owner := (congrArg Slot.owner hx :)
  have hcount : (s.slot i).passCount = x.passCount := (congrArg Slot.passCount hx :)
  have hcur : (s.slot i).curStep = some st := by
    rw [← hst, Slot.curStep, hblock, hindex]; rfl
  have hrep : (s.slot i).block.rep = x.block.rep := by rw [hblock]
  have hended (c : EndCause) : (seqEnd i c none
      (modSlot i (fun x => { x with passCount := satInc 65535 x.passCount }) s)).slot i
      = endedRecord c none { x with passCount := min 65535 (x.passCount + 1) } := by
    rw [seqEnd_slot_same, endingSlot_ne (s := modSlot i _ s) hh, slot_modSlot_same,
      ← endedRecord_unmarked, ← endedRecord_unmarked c none { x with passCount := _ }]
    exact congrArg (fun y : Slot => endedRecord c none { y with passCount := satInc 65535 y.passCount }) hx
  refine ⟨fun hc hr => ?_, fun nxt hc hn => ?_, fun hc hr hf => ?_, fun first hc hr hf hfirst => ?_⟩
  · rw [completeStep_last hcur hc (hrep ▸ hr)]
    exact hended .normal
  · rw [completeStep_chained hcur hc]
    refine (becomeCurrent_begins n (x := { x with step := x.step + 1 }) ?_ hn).congr ⟨rfl, rfl⟩ rfl ?_
    · rw [slot_modSlot_same]
      exact congrArg (fun y : Slot => { y with step := y.step + 1 }) hx
    · intro j
      rw [slot_modSlot]
      split <;> rfl
  · rw [completeStep_passEnd hcur hc (hrep ▸ hr), passEnd_set _ (hflag.trans hf)]
    exact hended .passUncleared
  · rw [completeStep_passEnd hcur hc (hrep ▸ hr), passEnd_clear _ (hflag.trans hf)]
    have hnotices := passCounted_notices i s
    rw [howner, hblock, hindex, hcount] at hnotices
    refine (becomeCurrent_begins n
      (x := { x with flag := true, passCount := min 65535 (x.passCount + 1), step := 1 })
      ?_ ?_).congr hnotices.symm ?_ fun j => ?_
    · rw [passCounted_slot]
      exact congrArg (fun y : Slot =>
        { y with flag := true, passCount := satInc 65535 y.passCount, step := 1 }) hx
    · rw [← hfirst, List.head?_eq_getElem?]; rfl
    · rw [passCounted_queue]; simp
    · rw [passCounted_cls, place_slot]

/-- Settles O14: the cases of R27 (`becomeCurrent_begins`), and for a CHECK its judgement. -/
theorem stepBecomesCurrent : Obligations.StepBecomesCurrent := by
  intro i chained s st hst hh
  have hself := unmark_slot i s
  have hcur : ((unmark i s).slot i).curStep = some st := by rw [hself]; exact hst
  have hreason : checkReason (unmark i s) ((unmark i s).slot i) st = checkReason s (s.slot i) st :=
    checkReason_congr ((keeps_slotReaction i).slot _ s) Iff.rfl rfl (by rw [hself]; rfl)
      (by rw [hself]; rfl) st
  have hmade (hl : (s.slot i).ownerLost = false) (hp : st.pause = false) (ha : st.action = .check) :
      makeCurrent i chained s = match checkReason s (s.slot i) st with
        | none => completeStep (becomeCurrent (62 + 1)) i
            (toldStarted i ((unmark i s).slot i) st (unmark i s))
        | some r => seqEnd i .checkFailed (some r)
            (toldStarted i ((unmark i s).slot i) st (unmark i s)) := by
    have hpause : (s.slot i).stepHas (·.pause) = false := by simpa only [Slot.stepHas, hst] using hp
    rw [← hreason, ← startStep_check hcur ha]
    exact becomeCurrent_start 63 hl hpause
  have hholder : (toldStarted i ((unmark i s).slot i) st (unmark i s)).arb.holder ≠ some i := by
    rw [toldStarted_arb]; exact hh
  refine ⟨(keeps_slotReaction i).makeCurrent chained s,
    fun j hj => ((othersKept_slotReaction i).makeCurrent chained s j hj).1,
    becomeCurrent_begins 63 rfl hst, fun r hl hp ha hr => ?_, fun hl hp ha hr => ?_⟩
  · rw [hmade hl hp ha, hr]
    show (seqEnd i .checkFailed (some r) _).slot i = _
    rw [seqEnd_slot_same, endingSlot_ne hholder, toldStarted_slot, hself, endedRecord_unmarked]
  · rw [hmade hl hp ha, hr]
    refine (completeStep_completes 62 ?_ hst hholder).congr ?_ ?_ fun j => ?_
    · rw [toldStarted_slot, hself]; rfl
    · rw [hself]
      exact toldStarted_same (s := unmark i s) (t := s) ⟨rfl, rfl⟩ i (s.slot i).unmarked st
    · rw [toldStarted_sm, toldStarted_sm]; rfl
    · rw [toldStarted_slot, toldStarted_slot]; exact (unmark_cls i s j).symm

/-! ## The expiry of a dwell timer -/

theorem due_iff {t : Timer} : due t = true ↔ t = some 0 := by simp [due]

/-- After its end a slot neither waits for the grant nor holds it. -/
theorem endedRecord_inert (c : EndCause) (w : Option WaitReason) (x : Slot) :
    (endedRecord c w x).inert = true := by
  unfold endedRecord
  split <;> rfl

/-- A slot that stands ended before the closing of a command stands so after it. -/
theorem Settled.ended {s t : State} (h : Settled s t) {i : SlotId} {c : EndCause}
    {w : Option WaitReason} {x : Slot} (hi : s.slot i = endedRecord c w x) :
    t.slot i = endedRecord c w x := by
  rw [← hi]
  exact (h.inert i (by rw [hi]; exact endedRecord_inert c w x)).1

/-- The slots that an operation on slot `i` leaves alone are left alone by the closing too, where they are
inert. -/
theorem Settled.others {s u t : State} (h : Settled u t) {i : SlotId}
    (hu : ∀ j, j ≠ i → u.slot j = s.slot j) (j : SlotId) (hj : j ≠ i)
    (hinert : (s.slot j).inert = true) : t.slot j = s.slot j := by
  rw [← hu j hj] at hinert ⊢
  exact (h.inert j hinert).1

/-- The record after the end of a sequence does not read the dwell timer. -/
theorem endedRecord_dwellT (c : EndCause) (w : Option WaitReason) (x : Slot) (t : Timer) :
    endedRecord c w { x with dwellT := t } = endedRecord c w x := rfl

/-- Settles O60: the expiry stops the timer and completes the step (`completeStep_completes`); slots that
end or pause are inert, so that the closing leaves them. -/
theorem dwellExpiryCompletesTheStep : Obligations.DwellExpiryCompletesTheStep := by
  intro i s st
  refine ⟨fun hd => ?_, fun hd hst hh => ?_⟩
  · rw [exec_dwellTimerExpiry, if_neg (mt due_iff.mp hd)]
  · have hstop : (modSlot i (fun x => { x with dwellT := none }) s).slot i
        = { s.slot i with dwellT := none } := slot_modSlot_same i _ s
    have hcompletes : StepCompletes s i { s.slot i with dwellT := none } st
        (stepDone i (modSlot i (fun x => { x with dwellT := none }) s)) := by
      refine (completeStep_completes 63 (x := { s.slot i with dwellT := none })
        (congrArg Slot.unmarked hstop) hst hh).congr ⟨rfl, rfl⟩ rfl fun j => ?_
      rw [slot_modSlot]
      split <;> rfl
    have hothers (j : SlotId) (hj : j ≠ i) :
        (stepDone i (modSlot i (fun x => { x with dwellT := none }) s)).slot j = s.slot j :=
      ((othersKept_slotReaction i).stepDone _ j hj).1.trans (slot_modSlot_ne _ s (Ne.symm hj))
    have hsettled := settle_settled (stepDone i (modSlot i (fun x => { x with dwellT := none }) s))
    refine ⟨_, _, by rw [exec_dwellTimerExpiry, if_pos (due_iff.mpr hd)], hsettled,
      ((keeps_slotReaction i).slot _ s).trans ((keeps_slotReaction i).stepDone _), hothers,
      hsettled.others hothers, hcompletes, fun hc hr => ?_, fun nxt hc hn hl hp => ?_,
      fun hc hr hf => ?_⟩
    · exact hsettled.ended ((hcompletes.1 hc hr).trans (endedRecord_dwellT .normal none
        { s.slot i with passCount := min 65535 ((s.slot i).passCount + 1) } none))
    · obtain ⟨hslot, -⟩ := (hcompletes.2.1 nxt hc hn).2.1 hl hp
      refine (hsettled.inert i (by rw [hslot]; rfl)).1.trans ?_
      rw [hslot, ← hl]
    · exact hsettled.ended ((hcompletes.2.2.1 hc hr hf).trans (endedRecord_dwellT .passUncleared none
        { s.slot i with passCount := min 65535 ((s.slot i).passCount + 1) } none))

end Sys2Proof.Machine
end

section
/-! PROOFS. Requests on slots (R41 to R46) and Submit (R9): each request refused and taken, what the end of a
controlled stop does with the outcome, and the statements. -/

namespace Sys2Proof.Machine

/-! ## The tests do not read what the link has recorded (R150) -/

section Taken
variable (src : Sender) (s : State) (st : StationId) (n : Byte)

@[simp] theorem cancelJudged_requestTaken :
    cancelJudged (requestTaken src s) st n = cancelJudged s st n := by simp [cancelJudged]

@[simp] theorem resumeJudged_requestTaken :
    resumeJudged (requestTaken src s) st n = resumeJudged s st n := by
  simp [resumeJudged, mayResume, ownerOrCab]

theorem submitOutcome_requestTaken (bytes : List Byte) :
    submitOutcome (requestTaken src s) st bytes = submitOutcome s st bytes := by
  cases src <;> rfl

theorem checkReason_requestTaken (x : Slot) (step : Step) :
    checkReason (requestTaken src s) x step = checkReason s x step := by
  unfold checkReason
  split
  · exact motionReason_requestTaken src s x step _
  · rfl

end Taken

theorem mayResume_iff (s : State) (st : StationId) (i : SlotId) : mayResume s st i = true
    ↔ st = 0 ∨ (s.slot i).owner = st ∨ (s.slot i).block.confirm.map stationOf = some st := by
  unfold mayResume
  rw [Bool.or_eq_true, ownerOrCab_iff, or_assoc]
  cases (s.slot i).block.confirm <;> simp

section Requests
variable {src : Sender} {n : Byte} {s : State}

/-! ## Cancel and Resume -/

theorem exec_cancel_refused (h : Reaches src s) {code : Code}
    (hj : cancelJudged s (senderStation src) n = .inl code) :
    exec (.cancel src n) s = .next (answered src 2 code (.slot n (namedTag s n)) s) := by
  rw [exec_cancel, viaLink_answerSlot h (f := takeCancel n) (k := 2) (c := code)]
  simp only [takeCancel, cancelJudged_requestTaken, hj]
  rfl

theorem exec_cancel_taken (h : Reaches src s) {i : SlotId} (hi : namedSlot s n = some i)
    (hj : cancelJudged s (senderStation src) n = .inr i) :
    exec (.cancel src n) s = .next (linkClosed src (settle (cancelEffect i
      (answer (senderStation src) 2 .ok (.slot n (some (s.slot i).block.tag))
        (requestTaken src s))))) := by
  rw [exec_cancel, viaLink_reaches h]
  simp only [takeCancel, cancelJudged_requestTaken, hj, answerSlot_requestTaken _ _ _ _ _ hi]
  rfl

theorem exec_resume_refused (h : Reaches src s) {code : Code}
    (hj : resumeJudged s (senderStation src) n = .inl code) :
    exec (.resume src n) s = .next (answered src 6 code (.slot n (namedTag s n)) s) := by
  rw [exec_resume, viaLink_answerSlot h (f := takeResume n) (k := 6) (c := code)]
  simp only [takeResume, resumeJudged_requestTaken, hj]
  rfl

theorem exec_resume_taken (h : Reaches src s) {i : SlotId} (hi : namedSlot s n = some i)
    (hj : resumeJudged s (senderStation src) n = .inr i) :
    exec (.resume src n) s = .next (linkClosed src (settle (resumeStep i
      (answer (senderStation src) 6 .ok (.slot n (some (s.slot i).block.tag))
        (requestTaken src s))))) := by
  rw [exec_resume, viaLink_reaches h]
  simp only [takeResume, resumeJudged_requestTaken, hj, answerSlot_requestTaken _ _ _ _ _ hi]
  rfl

/-- A number that names no slot is refused BAD_SLOT by every request on a slot that finds it. -/
theorem exec_badSlot (h : Reaches src s) (hn : namedSlot s n = none) :
    exec (.cancel src n) s = .next (answered src 2 .badSlot (.slot n none) s)
    ∧ exec (.release src n) s = .next (answered src 3 .badSlot (.slot n none) s)
    ∧ exec (.clearFlag src n) s = .next (answered src 4 .badSlot (.slot n none) s)
    ∧ (s.store.fault = false →
        exec (.resume src n) s = .next (answered src 6 .badSlot (.slot n none) s)
        ∧ (s.loop.state = .ready →
            exec (.rerun src n) s = .next (answered src 5 .badSlot (.slot n none) s))) := by
  have hbad := ownedSlot_bad (senderStation src) hn
  rw [← namedTag_none hn]
  exact ⟨exec_cancel_refused h (by simp [cancelJudged, hbad]),
    exec_release_refused h (by simp [releaseJudged, hbad]),
    exec_clearFlag_refused h (by simp [clearFlagJudged, hbad]),
    fun hf => ⟨exec_resume_refused h (by simp [resumeJudged, hf, hn]),
      fun hl => exec_rerun_refused h (rerunJudged_of_ownedSlot_inl hl hf hbad)⟩⟩

theorem exec_interrogate_out (h : Reaches src s) (hn : n = 0 ∨ 12 < n.toNat) :
    exec (.interrogate src n) s = .next (answered src 7 .badSlot (.slot n none) s) := by
  have hitem : itemOf 12 n.toNat = none := itemOf_out (hn.imp_left fun h => by simp [h])
  rw [exec_interrogate, ← namedTag_none (namedSlot_out s hn),
    viaLink_answerSlot h (f := takeInterrogate n) (k := 7) (c := .badSlot)]
  simp only [takeInterrogate, hitem]
  rfl

/-- Submit and Write Configuration decode whatever their parameters. -/
theorem decodeRequest_none {kind : Byte} {params : List Byte} (h : decodeRequest kind params = none) :
    kind ≠ kindSubmit ∧ kind ≠ kindWriteConfiguration := by
  constructor <;> (rintro rfl; cases h)

theorem exec_undecodableRequest_refused (h : Reaches src s) {rest : List Byte}
    (hd : decodeRequest n rest = none) :
    exec (.undecodableRequest src (n :: rest)) s = .next (answered src n .badRequest .none s) := by
  obtain ⟨hsubmit, hwrite⟩ := decodeRequest_none hd
  have hbody (st : StationId) (u : State) :
      takeBody (n :: rest) st u = answer st n .badRequest .none u := by
    simp only [takeBody, hd]
  rw [exec_undecodableRequest,
    viaLink_answered h (f := takeRaw (n :: rest)) (k := n) (c := .badRequest) (r := .none)]
  unfold takeRaw
  split
  · rename_i hcab
    rw [takeCabBody, if_neg (by simp [hsubmit, hwrite]), hbody, hcab]
  · exact hbody _ _

end Requests

/-- Settles O17: the tests of each request in their order, each refusal on its own. -/
theorem refusedRequestOnlyAnswers : Obligations.RefusedRequestOnlyAnswers := by
  intro src n s hr
  refine ⟨fun hout => ?_, fun i hn hi hcab ho => ?_, fun i hn hfree => ?_, fun i hn hc ho => ?_,
    fun hf => ?_, fun i hn hi hf => ⟨fun hcab ho hconfirm => ?_, fun hp hmay => ?_⟩, fun rest hd => ?_⟩
  · obtain ⟨hcancel, hrelease, hclear, hresume⟩ := exec_badSlot hr (namedSlot_out s hout)
    exact ⟨hcancel, hrelease, hclear, exec_interrogate_out hr hout, hresume⟩
  · have hname := namedSlot_some hn hi
    have hown := ownedSlot_foreign hname hcab ho
    rw [← namedTag_some hname]
    exact ⟨exec_cancel_refused hr (by simp [cancelJudged, hown]),
      exec_release_refused hr (by simp [releaseJudged, hown]),
      exec_clearFlag_refused hr (by simp [clearFlagJudged, hown])⟩
  · exact exec_badSlot hr (namedSlot_free hn hfree)
  · have hname := namedSlot_some (s := s) hn (by simp [hc])
    rw [← namedTag_some hname]
    exact exec_cancel_refused hr (by simp [cancelJudged, ownedSlot_permitted hname ho, hc])
  · exact exec_resume_refused hr (by simp [resumeJudged, hf])
  · have hname := namedSlot_some hn hi
    have hmay : ¬ mayResume s (senderStation src) i = true := by
      rw [mayResume_iff]
      rintro (h | h | h)
      · exact hcab h
      · exact ho h
      · exact hconfirm h
    rw [← namedTag_some hname]
    exact exec_resume_refused hr (by simp [resumeJudged, hf, hname, hmay])
  · have hname := namedSlot_some hn hi
    rw [← namedTag_some hname]
    exact exec_resume_refused hr
      (by simp [resumeJudged, hf, hname, (mayResume_iff _ _ _).mpr hmay, hp])
  · exact exec_undecodableRequest_refused hr hd

/-! ## Cancel -/

theorem cancelJudged_permitted {s : State} {n : Byte} {i : SlotId} {st : StationId}
    (hn : namedSlot s n = some i) (ho : st = 0 ∨ (s.slot i).owner = st)
    (hc : (s.slot i).state ≠ .completed) : cancelJudged s st n = .inr i := by
  simp [cancelJudged, ownedSlot_permitted hn ho, hc]

/-- The answer to a request is placed in the state its link hands over. -/
def answeredOk (src : Sender) (kind : Byte) (r : Result) (s : State) : State :=
  answer (senderStation src) kind .ok r (requestTaken src s)

section AnsweredOk
variable (src : Sender) (k : Byte) (r : Result) (s : State)
@[simp] theorem answeredOk_sm : (answeredOk src k r s).sm = s.sm := by simp [answeredOk]
@[simp] theorem answeredOk_zt : (answeredOk src k r s).zt = s.zt := by simp [answeredOk]
@[simp] theorem answeredOk_arb : (answeredOk src k r s).arb = s.arb := by simp [answeredOk]
@[simp] theorem answeredOk_sensors : (answeredOk src k r s).sensors = s.sensors := by simp [answeredOk]
@[simp] theorem answeredOk_se : (answeredOk src k r s).se = s.se := by simp [answeredOk]
@[simp] theorem answeredOk_bu : (answeredOk src k r s).bu = s.bu := by simp [answeredOk]
@[simp] theorem answeredOk_loop : (answeredOk src k r s).loop = s.loop := by simp [answeredOk]
@[simp] theorem answeredOk_veh : (answeredOk src k r s).veh = s.veh := by simp [answeredOk]
@[simp] theorem answeredOk_sup : (answeredOk src k r s).sup = s.sup := by simp [answeredOk]
@[simp] theorem answeredOk_lines : (answeredOk src k r s).lines = s.lines := by simp [answeredOk]
@[simp] theorem answeredOk_cfg : (answeredOk src k r s).cfg = s.cfg := by simp [answeredOk]
@[simp] theorem answeredOk_store : (answeredOk src k r s).store = s.store := by simp [answeredOk]
@[simp] theorem answeredOk_slot (i : SlotId) : (answeredOk src k r s).slot i = s.slot i :=
  slot_congr (by rw [answeredOk_sm]) i
theorem answeredOk_keeps : Keeps (requestTaken src s) (answeredOk src k r s) := answer_keeps _ _ _ _ _
end AnsweredOk

theorem exec_cancel_effect {src : Sender} {n : Byte} {s : State} {i : SlotId} (hr : Reaches src s)
    (hn : n.toNat = i.val + 1) (ho : senderStation src = 0 ∨ (s.slot i).owner = senderStation src)
    (hlive : (s.slot i).state ≠ .free) (hc : (s.slot i).state ≠ .completed) :
    ∃ r t, exec (.cancel src n) s = .next t ∧ Settled (cancelEffect i (answeredOk src 2 r s)) t := by
  have hname := namedSlot_some hn hlive
  exact ⟨_, _, exec_cancel_taken hr hname (cancelJudged_permitted hname ho hc), settled_linkClosed src _⟩

/-- Settles O18: the sequence ends, and an ended slot is inert. -/
theorem cancelEndsAWaitingSlot : Obligations.CancelEndsAWaitingSlot := by
  intro src i n s hr hn hh ho hstate
  obtain ⟨r, t, ht, hsettled⟩ := exec_cancel_effect hr hn ho
    (by rcases hstate with h | h | h <;> simp [h]) (by rcases hstate with h | h | h <;> simp [h])
  have heffect : cancelEffect i (answeredOk src 2 r s)
      = seqEnd i .cancelled none (answeredOk src 2 r s) := by
    unfold cancelEffect
    rcases hstate with h | h | h <;> rw [answeredOk_slot, h]
  rw [heffect] at hsettled
  have hended : (seqEnd i .cancelled none (answeredOk src 2 r s)).slot i
      = endedRecord .cancelled none (s.slot i) := by
    rw [seqEnd_slot_same, endingSlot_ne (by rwa [answeredOk_arb]), answeredOk_slot]
  refine ⟨t, ht, hsettled.ended hended, ?_, hsettled.others fun j hj => ?_,
    (answeredOk_keeps src 2 r s).trans ((seqEnd_keeps _ _ _ _).trans hsettled.toKeeps)⟩
  · rw [(hsettled.inert i (by rw [hended]; exact endedRecord_inert _ _ _)).2, seqEnd_queue]
    simp
  · rw [seqEnd_slot_ne i _ _ _ hj, answeredOk_slot]

/-! ## Controlled stops -/

section StopBegun
variable (o : StopOutcome) (k : Stroke) (s : State)

theorem stopBegun_slot : (stopBegun o k s).slot k.slot = fixOutcome o (s.slot k.slot) :=
  slot_modSlot_same k.slot _ s

theorem stopBegun_stroke : (stopBegun o k s).se.stroke = some (stoppingStroke s k) := rfl

theorem stopBegun_drive (a : AxisId) : (stopBegun o k s).se.drives[a]
    = if a = k.axis then { s.se.drives[a] with solenoid := false } else s.se.drives[a] := by
  simp only [stopBegun, setStroke_se, modDrive_se, modSlot_se, Fin.getElem_fin, upd_get,
    eq_comm (a := k.axis)]

theorem stopBegun_holder_stopping (hh : s.arb.holder = some k.slot) : Steady (stopBegun o k s) := by
  refine .inr ⟨k.slot, hh, .inl ?_⟩
  rw [stopBegun_slot]
  cases o <;> exact nofun

end StopBegun

/-- The state in which STOPPING has ended, before its outcome is acted on (R114). -/
def stopOver (k : Stroke) (s : State) : State := releaseGrant k.slot (dropStroke s)

theorem stopOver_slot {k : Stroke} {s : State} (hh : s.arb.holder = some k.slot) :
    (stopOver k s).slot k.slot = withLastMove s (s.slot k.slot) := by
  rw [stopOver, releaseGrant_slot_same, if_pos (by rw [dropStroke_holder]; exact hh), dropStroke_slot]
  simp only [withLastMove, dropStroke_sensors]

theorem stopOver_holder (k : Stroke) (s : State) : (stopOver k s).arb.holder ≠ some k.slot :=
  releaseGrant_holder_ne _ _

/-- An outcome "ending" ends the sequence with its cause (R34). -/
theorem stopEnds_ending {k : Stroke} {s : State} (hh : s.arb.holder = some k.slot)
    (hi : (s.slot k.slot).interrupted = false) :
    stopEnds k s = seqEnd k.slot ((s.slot k.slot).lastEnd.getD .cancelled) none (stopOver k s) := by
  have hslot := stopOver_slot hh
  have hmark : ((stopOver k s).slot k.slot).interrupted = false := by rw [hslot]; exact hi
  have hend : ((stopOver k s).slot k.slot).lastEnd = (s.slot k.slot).lastEnd := by rw [hslot]; rfl
  rw [← hend]
  exact if_neg (show ¬ ((stopOver k s).slot k.slot).interrupted = true by rw [hmark]; exact nofun)

theorem stopEnds_ending_slot {k : Stroke} {s : State} (hh : s.arb.holder = some k.slot)
    (hi : (s.slot k.slot).interrupted = false) : (stopEnds k s).slot k.slot
      = endedRecord ((s.slot k.slot).lastEnd.getD .cancelled) none (withLastMove s (s.slot k.slot)) := by
  rw [stopEnds_ending hh hi, seqEnd_slot_same, endingSlot_ne (stopOver_holder k s), stopOver_slot hh]

/-- Settles O19: an ACTIVE holder's controlled stop begins and, with Ts at 0, ends; of a STOPPING one only
the outcome changes. -/
theorem cancelStopsTheHolder : Obligations.CancelStopsTheHolder := by
  intro src i n s k hr hn ho hh hk hslot hstate
  subst hslot
  obtain ⟨r, t, ht, hsettled⟩ := exec_cancel_effect hr hn ho
    (by rcases hstate with h | h <;> simp [h]) (by rcases hstate with h | h <;> simp [h])
  have hha : (answeredOk src 2 r s).arb.holder = some k.slot := by rw [answeredOk_arb]; exact hh
  have hka : (answeredOk src 2 r s).se.stroke = some k := by rw [answeredOk_se]; exact hk
  have hts : (answeredOk src 2 r s).axisCfg k.axis = s.axisCfg k.axis := by
    simp only [State.axisCfg, answeredOk_cfg]
  have hstop : stoppingStroke (answeredOk src 2 r s) k = stoppingStroke s k := by
    simp only [stoppingStroke, hts, answeredOk_se]
  have heffect : (s.slot k.slot).state = .active → cancelEffect k.slot (answeredOk src 2 r s)
      = if (s.axisCfg k.axis).ts = 0
        then stopEnds (stoppingStroke s k) (stopBegun (.ending .cancelled) k (answeredOk src 2 r s))
        else stopBegun (.ending .cancelled) k (answeredOk src 2 r s) := by
    intro ha
    rw [cancelEffect, answeredOk_slot, ha]
    dsimp only
    rw [controlledStop_active _ hha hka (by rw [answeredOk_slot]; exact ha), hts, hstop]
  have hconvert : (s.slot k.slot).state = .stopping → cancelEffect k.slot (answeredOk src 2 r s)
      = modSlot k.slot convertStop (answeredOk src 2 r s) := by
    intro ha
    rw [cancelEffect, answeredOk_slot, ha]
  have hkept : OthersKept k.slot (answeredOk src 2 r s) (cancelEffect k.slot (answeredOk src 2 r s))
      ∧ Keeps (answeredOk src 2 r s) (cancelEffect k.slot (answeredOk src 2 r s)) := by
    rcases hstate with ha | ha
    · have hcancel : cancelEffect k.slot (answeredOk src 2 r s)
          = controlledStop (.ending .cancelled) (answeredOk src 2 r s) := by
        rw [cancelEffect, answeredOk_slot, ha]
      rw [hcancel]
      exact ⟨(othersKept_slotReaction k.slot).controlledStop _ _ hha,
        (keeps_slotReaction k.slot).controlledStop _ _ hha⟩
    · rw [hconvert ha]
      exact ⟨(othersKept_slotReaction k.slot).slot _ _, (keeps_slotReaction k.slot).slot _ _⟩
  refine ⟨t, ht, (answeredOk_keeps src 2 r s).trans (hkept.2.trans hsettled.toKeeps),
    hsettled.others fun j hj => (hkept.1 j hj).1.trans (answeredOk_slot src 2 r s j), fun ha hts0 => ?_,
    fun ha hts0 hint => ?_, fun ha => ?_⟩
  · rw [heffect ha, if_neg hts0] at hsettled
    obtain ⟨hsm, harb, hse, -⟩ := hsettled.steady (stopBegun_holder_stopping _ k _ hha)
    refine ⟨?_, harb.trans (answeredOk_arb src 2 r s), ?_, fun a => ?_⟩
    · rw [slot_congr (s := stopBegun _ k _) (by rw [hsm]) k.slot, stopBegun_slot, answeredOk_slot]
      rfl
    · rw [hse, stopBegun_stroke, hstop]
      rfl
    · rw [hse, stopBegun_drive, answeredOk_se]
  · rw [heffect ha, if_pos hts0] at hsettled
    refine hsettled.ended (?_ : _ = endedRecord .cancelled none (withLastMove s (s.slot k.slot)))
    have hbegun : (stopBegun (.ending .cancelled) k (answeredOk src 2 r s)).slot k.slot
        = { s.slot k.slot with state := .stopping, lastEnd := some .cancelled } := by
      rw [stopBegun_slot, answeredOk_slot]; rfl
    have hrec := stopEnds_ending_slot (k := stoppingStroke s k)
      (s := stopBegun (.ending .cancelled) k (answeredOk src 2 r s)) hha
      (by rw [show (stoppingStroke s k).slot = k.slot from rfl, hbegun]; exact hint)
    rw [show (stoppingStroke s k).slot = k.slot from rfl, hbegun] at hrec
    rw [hrec]
    have hsens : (stopBegun (.ending .cancelled) k (answeredOk src 2 r s)).sensors = s.sensors :=
      answeredOk_sensors src 2 r s
    simp only [withLastMove, hsens]
    rfl
  · rw [hconvert ha] at hsettled
    have hafter : (modSlot k.slot convertStop (answeredOk src 2 r s)).slot k.slot
        = convertStop (s.slot k.slot) := by rw [slot_modSlot_same, answeredOk_slot]
    have hnot : (convertStop (s.slot k.slot)).state ≠ .active := by
      unfold convertStop
      split <;> simp [ha]
    obtain ⟨hsm, harb, hse, -⟩ := hsettled.steady
      (.inr ⟨k.slot, hha, .inl (by rw [hafter]; exact hnot)⟩)
    refine ⟨?_, ?_, harb.trans (answeredOk_arb src 2 r s), hse.trans (answeredOk_se src 2 r s)⟩
    · rw [slot_congr (s := modSlot k.slot convertStop _) (by rw [hsm]) k.slot, hafter]
      rfl
    · rw [hsm]; simp

/-! ## Resume -/

/-- The state in which a Resume starts the step: the pause cause is cleared (R28). -/
def unpaused (i : SlotId) (s : State) : State := modSlot i (fun x => { x with pauseCause := none }) s

theorem resumeStep_eq (i : SlotId) (s : State) :
    resumeStep i s = startStep (becomeCurrent chainBound) i false (unpaused i s) := rfl

theorem unpaused_slot (i : SlotId) (s : State) :
    (unpaused i s).slot i = { s.slot i with pauseCause := none } := slot_modSlot_same i _ s

theorem unpaused_cls (i : SlotId) (s : State) (j : SlotId) :
    ((unpaused i s).slot j).block.cls = (s.slot j).block.cls := by
  rw [unpaused, slot_modSlot]
  split <;> rfl

/-- Settles O22: the step is started from the record with its pause cause cleared, whatever its P flag. -/
theorem resumeStartsThePausedStep : Obligations.ResumeStartsThePausedStep := by
  intro src i n s st hr hn hf hh hmay hp hst
  have hname := namedSlot_some (s := s) hn (by simp [hp])
  have hj : resumeJudged s (senderStation src) n = .inr i := by
    simp [resumeJudged, hf, hname, (mayResume_iff _ _ _).mpr hmay, hp]
  have hexec := exec_resume_taken hr hname hj
  have hok : answer (senderStation src) 6 .ok (.slot n (some (s.slot i).block.tag)) (requestTaken src s)
      = answeredOk src 6 (.slot n (some (s.slot i).block.tag)) s := rfl
  rw [hok] at hexec ⊢
  generalize Result.slot n (some (s.slot i).block.tag) = r at hexec ⊢
  have hself : (answeredOk src 6 r s).slot i = s.slot i := answeredOk_slot src 6 r s i
  have hslot : (unpaused i (answeredOk src 6 r s)).slot i = { s.slot i with pauseCause := none } := by
    rw [unpaused_slot, hself]
  have hcls (j : SlotId) : ((unpaused i (answeredOk src 6 r s)).slot j).block.cls
      = (s.slot j).block.cls := by rw [unpaused_cls, answeredOk_slot]
  have hcur : ((unpaused i (answeredOk src 6 r s)).slot i).curStep = some st := by
    rw [hslot]; exact hst
  have hreason : checkReason (unpaused i (answeredOk src 6 r s))
      ((unpaused i (answeredOk src 6 r s)).slot i) st = checkReason s (s.slot i) st := by
    rw [hslot, ← checkReason_requestTaken src s]
    exact checkReason_congr ((answeredOk_keeps src 6 r s).trans ((keeps_slotReaction i).slot
      (fun x => { x with pauseCause := none }) _)) (by simp) (by simp) rfl rfl st
  have htold : SameNotices (toldStarted i (s.slot i) st (answeredOk src 6 r s))
      (toldStarted i ((unpaused i (answeredOk src 6 r s)).slot i) st
        (unpaused i (answeredOk src 6 r s))) := by
    rw [hslot]
    exact toldStarted_same (s := answeredOk src 6 r s) (t := unpaused i (answeredOk src 6 r s))
      ⟨rfl, rfl⟩ i { s.slot i with pauseCause := none } st
  refine ⟨_, _, hexec, settled_linkClosed src _,
    (answeredOk_keeps src 6 r s).trans ((keeps_slotReaction i).resumeStep _),
    fun j hj => ((othersKept_slotReaction i).resumeStep _ j hj).1.trans (answeredOk_slot src 6 r s j),
    fun ha => ?_, fun ha => ⟨?_, ?_⟩, fun ha => ?_, fun why ha hwhy => ?_⟩
  · rw [resumeStep_eq, startStep_dwell hcur ha, slot_modSlot_same, toldStarted_slot, hslot]
  · rw [resumeStep_eq, startStep_move hcur ha, enqueue_slot_same, toldStarted_slot, hslot]
  · have hmark : ((unpaused i (answeredOk src 6 r s)).slot i).interrupted = (s.slot i).interrupted := by
      rw [hslot]
    rw [resumeStep_eq, startStep_move hcur ha, enqueue_queue, toldStarted_sm, Bool.false_or, hmark,
      insertFront_congr (s := s) fun j => by rw [toldStarted_slot]; exact hcls j]
    simp [unpaused]
  · rw [resumeStep_eq]
    rcases ha with ha | ha
    · rw [startStep_dwell hcur ha]; exact htold
    · rw [startStep_move hcur ha]; exact htold
  · rw [resumeStep_eq, startStep_check hcur ha, hreason, hwhy]
    dsimp only
    rw [seqEnd_slot_same, endingSlot_ne (by rw [toldStarted_arb]; simpa [unpaused] using hh),
      toldStarted_slot, hslot]
    rfl

/-! ## Submit -/

theorem firstFailure_eq_some {l : List CheckResult} {code : Code} {k : Nat}
    (h : firstFailure l = some (code, k)) : (code, some k) ∈ l := by
  induction l with
  | nil => cases h
  | cons p l ih =>
    obtain ⟨c, _ | j⟩ := p
    · exact List.mem_cons_of_mem _ (ih h)
    · cases h; exact List.mem_cons_self

/-- The codes of the checks that carry no step index, and those of the resource refusals (R10, R17). -/
def wholeBlockCodes : List Code :=
  [.format, .stepCount, .cls, .stopped, .busy, .configFault, .dupTag, .stationLimit, .noSlot]

/-- A check of the whole block fails with the index 0. -/
theorem formatChecks_index {fault : Bool} {c : Cfg} {st : StationId} {bytes : List Byte} {code : Code}
    {k : Nat} (h : (code, some k) ∈ formatChecks fault c st bytes) (hc : code ∈ wholeBlockCodes) :
    k = 0 := by
  have hif {p : Prop} [Decidable p] (hp : some k = if p then some 0 else none) : k = 0 := by
    split at hp
    · simpa using hp
    · cases hp
  simp only [formatChecks, List.mem_cons, Prod.mk.injEq, List.not_mem_nil, or_false] at h
  rcases h with ⟨_, hk⟩ | ⟨rfl, _⟩ | ⟨_, hk⟩ | ⟨_, hk⟩ | ⟨rfl, _⟩ | ⟨rfl, _⟩ | ⟨rfl, _⟩ | ⟨rfl, _⟩
    | ⟨rfl, _⟩ | ⟨rfl, _⟩ | ⟨rfl, _⟩ | ⟨rfl, _⟩
  · exact hif hk
  case inr.inr.inl => exact hif hk
  case inr.inr.inr.inl =>
    split at hk
    · cases hk
    · exact hif hk
  all_goals exact absurd hc (by decide)

theorem submitOutcome_index {s : State} {st : StationId} {bytes : List Byte} {code : Code} {k : Nat}
    (h : submitOutcome s st bytes = .inl (code, k)) (hc : code ∈ wholeBlockCodes) : k = 0 := by
  unfold submitOutcome at h
  split at h
  · rename_i hfail
    cases h
    exact formatChecks_index (firstFailure_eq_some hfail) hc
  · split at h
    · cases h; rfl
    · split at h <;> cases h
      rfl

/-- Settles O13: the refusals of R10 and R17 with their indices, and the accepted slot before its step 1
becomes current. -/
theorem submitIsRefusedOrWritesTheSlot : Obligations.SubmitIsRefusedOrWritesTheSlot := by
  intro src bytes s hr
  refine ⟨fun code k hout => ⟨?_, fun hc => ?_⟩, fun i hout => ?_⟩
  · rw [exec_submit, viaLink_answered hr (f := takeSubmit bytes) (k := 1) (c := code)]
    simp only [takeSubmit, submitOutcome_requestTaken, hout]
    rfl
  · refine submitOutcome_index hout ?_
    rcases hc with rfl | rfl | rfl | rfl | rfl | rfl | rfl | rfl | rfl <;> decide
  · have hexec : exec (.submit src bytes) s = .next (linkClosed src (settle
        (acceptSubmit (senderStation src) i bytes (requestTaken src s)))) := by
      rw [exec_submit, viaLink_reaches hr]
      simp only [takeSubmit, submitOutcome_requestTaken, hout]
    refine ⟨judgePower (modSlot i (fun _ => acceptedSlot (senderStation src) (storedBlock bytes))
      (requestTaken src s)), _, hexec, settled_linkClosed src _,
      ((keeps_slotReaction i).slot _ _).trans ((keeps_slotReaction i).judgePower _), ?_,
      fun j hj => ?_, ?_, ?_, ?_, ?_⟩
    · rw [judgePower_slot, slot_modSlot_same]; rfl
    · rw [judgePower_slot, slot_modSlot_ne _ _ (Ne.symm hj), requestTaken_slot]
    all_goals
      rw [judgePower_eq]
      simp

end Sys2Proof.Machine
end

section
/-! PROOFS. Zones (R53 to R56, R48): folds over the slots, the flush of a zone slot by slot, and the
statements on blocks and on the traffic permit (R64, R65). -/

namespace Sys2Proof.Machine

/-! ## Folds over the slots -/

section Folds
variable {f : State → SlotId → State} (hf : ∀ s i j, j ≠ i → (f s i).slot j = s.slot j)
include hf

/-- A fold that treats one slot at a time leaves a slot outside its list alone. -/
theorem foldl_slot_of_notMem {l : List SlotId} {i : SlotId} (hi : i ∉ l) (s : State) :
    (l.foldl f s).slot i = s.slot i := by
  induction l generalizing s with
  | nil => rfl
  | cons j l ih =>
    simp only [List.mem_cons, not_or] at hi
    obtain ⟨hij, hil⟩ := hi
    rw [List.foldl_cons, ih hil, hf s j i hij]

omit hf in
/-- The slots before and after a slot. -/
theorem allSlots_split (i : SlotId) : ∃ before after, allSlots = before ++ i :: after
    ∧ i ∉ before ∧ i ∉ after ∧ ∀ j, j ∈ before ∨ j ∈ after → j ≠ i := by
  obtain ⟨before, after, h⟩ := List.append_of_mem ((by decide : ∀ i : SlotId, i ∈ allSlots) i)
  have hnodup : (before ++ i :: after).Nodup := h ▸ by decide
  obtain ⟨-, hafter, hne⟩ := List.nodup_append.mp hnodup
  have hb : i ∉ before := fun hi => hne i hi i List.mem_cons_self rfl
  have ha : i ∉ after := (List.nodup_cons.mp hafter).1
  refine ⟨before, after, h, hb, ha, ?_⟩
  rintro j (hj | hj) rfl
  · exact hb hj
  · exact ha hj

/-- A slot after the fold is as its own treatment leaves it, from a state in which it is as before. -/
theorem foldl_allSlots_slot (i : SlotId) (s : State) : ∃ (v : State) (before : List SlotId),
    (∀ j ∈ before, j ≠ i) ∧ v = before.foldl f s ∧ v.slot i = s.slot i
      ∧ (allSlots.foldl f s).slot i = (f v i).slot i := by
  obtain ⟨before, after, hsplit, hb, ha, hne⟩ := allSlots_split i
  refine ⟨before.foldl f s, before, fun j hj => hne j (.inl hj), rfl,
    foldl_slot_of_notMem hf hb s, ?_⟩
  rw [hsplit, List.foldl_append, List.foldl_cons, foldl_slot_of_notMem hf ha]

end Folds

/-! ## The flush of a zone (R48) -/

theorem flushOne_ne (z : ZoneId) (s : State) (i j : SlotId) (hj : j ≠ i) :
    (flushOne z s i).slot j = s.slot j := by
  unfold flushOne
  split
  · split
    · exact ((othersKept_slotReaction i).strokeEnds _ s j hj).1
    · exact seqEnd_slot_ne i _ _ s hj
  · rfl

theorem flushOne_keeps (z : ZoneId) (s : State) (i : SlotId) : Keeps s (flushOne z s i) := by
  unfold flushOne
  split
  · split
    · exact (keeps_slotReaction i).strokeEnds _ s
    · exact seqEnd_keeps i _ _ s
  · exact .refl s

theorem flush_keeps (z : ZoneId) (s : State) : Keeps s (flush z s) :=
  .foldl (fun s i => flushOne_keeps z s i) _ s

theorem flushes_congr {s t : State} {z : ZoneId} {i : SlotId} (hslot : t.slot i = s.slot i)
    (hcfg : t.cfg = s.cfg) : flushes t z i = flushes s z i := by
  have hzone : t.axisZone = s.axisZone := by
    funext a
    rw [State.axisZone, State.axisZone, State.axisCfg, State.axisCfg, hcfg]
  rw [flushes, flushes, hslot, hzone]

/-- The slots a flush ends. -/
theorem flushes_iff (s : State) (z : ZoneId) (i : SlotId) : flushes s z i = true
    ↔ ((s.slot i).state = .active ∨ (s.slot i).state = .queued ∨ (s.slot i).state = .paused)
      ∧ (s.slot i).curAxis.bind s.axisZone = some z := by
  unfold flushes
  cases (s.slot i).curAxis <;> simp [or_assoc]

/-- A slot that the flush does not end is left alone. -/
theorem flush_slot_spared {s : State} {z : ZoneId} {i : SlotId} (hi : flushes s z i = false) :
    (flush z s).slot i = s.slot i := by
  obtain ⟨v, before, -, hv, hslot, hend⟩ := foldl_allSlots_slot (flushOne_ne z) i s
  have hcfg : v.cfg = s.cfg := hv ▸ (Keeps.foldl (fun s i => flushOne_keeps z s i) before s).cfg
  rw [flush, hend, flushOne, if_neg (by rw [flushes_congr hslot hcfg]; simp [hi]), hslot]

/-- Before and behind the one ACTIVE slot the flush touches neither the grant nor the strokes. -/
theorem foldl_flushOne_beside (z : ZoneId) {l : List SlotId} {s : State}
    (h : ∀ j ∈ l, (s.slot j).state ≠ .active ∧ s.arb.holder ≠ some j) (hl : l.Nodup) :
    (l.foldl (flushOne z) s).arb = s.arb ∧ (l.foldl (flushOne z) s).se = s.se := by
  induction l generalizing s with
  | nil => exact ⟨rfl, rfl⟩
  | cons i l ih =>
    obtain ⟨hactive, hheld⟩ := h i List.mem_cons_self
    obtain ⟨hil, hl⟩ := List.nodup_cons.mp hl
    have hone : (flushOne z s i).arb = s.arb ∧ (flushOne z s i).se = s.se := by
      unfold flushOne
      split
      · simp only [seqEnd_arb, seqEnd_se, if_neg hheld, and_self]
      · exact ⟨rfl, rfl⟩
    obtain ⟨harb, hse⟩ := hone
    obtain ⟨harb', hse'⟩ := ih (s := flushOne z s i) (fun j hj => by
      rw [flushOne_ne z s i j (fun hji => hil (hji ▸ hj)), harb]
      exact h j (List.mem_cons_of_mem _ hj)) hl
    exact ⟨harb'.trans harb, hse'.trans hse⟩

/-- No end of a slot gives the grant to another. -/
theorem foldl_flushOne_holder (z : ZoneId) (l : List SlotId) {s : State} {i : SlotId}
    (h : s.arb.holder ≠ some i) : (l.foldl (flushOne z) s).arb.holder ≠ some i := by
  induction l generalizing s with
  | nil => exact h
  | cons j l ih =>
    refine ih ?_
    unfold flushOne
    split
    · have hended (c : EndCause) (u : State) (hu : u.arb.holder = s.arb.holder) :
          (seqEnd j c none u).arb.holder ≠ some i := by
        rw [seqEnd_arb, hu]
        dsimp only
        split
        · exact nofun
        · exact h
      split
      · exact hended .zoneBlocked _ (dropStroke_holder s)
      · exact hended _ s rfl
    · exact h

/-- A waiting slot of the zone ends ZONE_BLOCKED. -/
theorem flush_slot_waiting {s : State} {z : ZoneId} {i : SlotId} (hi : flushes s z i = true)
    (ha : (s.slot i).state ≠ .active) (hh : s.arb.holder ≠ some i) :
    (flush z s).slot i = endedRecord .zoneBlocked none (s.slot i) := by
  obtain ⟨v, before, -, hv, hslot, hend⟩ := foldl_allSlots_slot (flushOne_ne z) i s
  have hcfg : v.cfg = s.cfg := hv ▸ (Keeps.foldl (fun s i => flushOne_keeps z s i) before s).cfg
  have hholder : v.arb.holder ≠ some i := hv ▸ foldl_flushOne_holder z before hh
  rw [flush, hend, flushOne, if_pos (by rw [flushes_congr hslot hcfg]; exact hi),
    if_neg (by rw [hslot]; exact ha), seqEnd_slot_same, endingSlot_ne hholder, hslot]

theorem withLastMove_congr {s t : State} (h : t.sensors = s.sensors) (x : Slot) :
    withLastMove t x = withLastMove s x := by simp only [withLastMove, h]

/-- The end of a stroke by a cause that no A flag covers ends the sequence of its holder. -/
theorem strokeEnds_cause {i : SlotId} {e : StrokeEnd} {s : State} (harr : e ≠ .arrived)
    (hshort : (e.shortfall && (s.slot i).stepHas (·.acceptShort)) = false) :
    strokeEnds i e s = seqEnd i e.cause none (dropStroke s) := by
  unfold strokeEnds
  dsimp only
  rw [if_neg harr, if_neg (by rw [dropStroke_slot, hshort]; exact nofun)]

theorem endingSlot_dropStroke {i : SlotId} {s : State} (hh : s.arb.holder = some i) :
    endingSlot i (dropStroke s) = withLastMove s (s.slot i) := by
  rw [endingSlot, if_pos (by rw [dropStroke_holder]; exact hh), dropStroke_slot,
    withLastMove_congr (dropStroke_sensors s)]

/-- The ACTIVE slot of the zone ends ZONE_BLOCKED at once: its axis rests and the grant is released. -/
theorem flush_slot_active {s : State} {z : ZoneId} {i : SlotId} (hg : GrantInv s)
    (hi : flushes s z i = true) (ha : (s.slot i).state = .active) :
    (flush z s).slot i = endedRecord .zoneBlocked none (withLastMove s (s.slot i))
      ∧ (flush z s).arb.holder = none ∧ (flush z s).se = (dropStroke s).se := by
  obtain ⟨hgrant, -⟩ := hg
  have hh : s.arb.holder = some i := (hgrant i).mpr (.inl ha)
  have hlone (j : SlotId) (hj : j ≠ i) : (s.slot j).state ≠ .active ∧ s.arb.holder ≠ some j := by
    refine ⟨fun hja => ?_, fun hjh => ?_⟩
    · have hjh := (hgrant j).mpr (.inl hja)
      exact hj (Option.some.inj (hjh.symm.trans hh))
    · exact hj (Option.some.inj (hjh.symm.trans hh))
  obtain ⟨before, after, hsplit, hb, hafter, hne⟩ := allSlots_split i
  have hnodup : (before ++ i :: after).Nodup := hsplit ▸ by decide
  obtain ⟨hbn, hian, -⟩ := List.nodup_append.mp hnodup
  obtain ⟨harb, hse⟩ := foldl_flushOne_beside z (l := before) (s := s)
    (fun j hj => hlone j (hne j (.inl hj))) hbn
  have hslot := foldl_slot_of_notMem (flushOne_ne z) hb s
  have hkeeps := Keeps.foldl (fun s i => flushOne_keeps z s i) before s
  have hothers (j : SlotId) (hj : j ∈ after) : (before.foldl (flushOne z) s).slot j = s.slot j := by
    refine foldl_slot_of_notMem (flushOne_ne z) (fun hjb => ?_) s
    exact (List.nodup_append.mp hnodup).2.2 j hjb j (List.mem_cons_of_mem _ hj) rfl
  have hall : flush z s = after.foldl (flushOne z) (flushOne z (before.foldl (flushOne z) s) i) := by
    rw [flush, hsplit, List.foldl_append, List.foldl_cons]
  rw [hall]
  generalize before.foldl (flushOne z) s = v at *
  have hone : flushOne z v i = seqEnd i .zoneBlocked none (dropStroke v) := by
    rw [flushOne, if_pos (by rw [flushes_congr hslot hkeeps.cfg]; exact hi),
      if_pos (by rw [hslot]; exact ha), strokeEnds_cause (e := .zoneBlocked) nofun rfl]
    rfl
  have hvh : v.arb.holder = some i := by rw [harb]; exact hh
  have hafterState (j : SlotId) (hj : j ∈ after) :
      ((flushOne z v i).slot j).state ≠ .active ∧ (flushOne z v i).arb.holder ≠ some j := by
    have hji := hne j (.inr hj)
    rw [flushOne_ne z v i j hji, hothers j hj, hone, seqEnd_arb, dropStroke_holder, hvh]
    exact ⟨(hlone j hji).1, by simp⟩
  obtain ⟨harb', hse'⟩ := foldl_flushOne_beside z hafterState (List.nodup_cons.mp hian).2
  refine ⟨?_, ?_, ?_⟩
  · rw [foldl_slot_of_notMem (flushOne_ne z) hafter, hone, seqEnd_slot_same,
      endingSlot_dropStroke hvh, hslot, withLastMove_congr hkeeps.sensors]
  · rw [harb', hone, seqEnd_arb, dropStroke_holder, hvh]
    simp
  · rw [hse', hone, seqEnd_se]
    cases hk : s.se.stroke with
    | none => rw [dropStroke_none hk, dropStroke_none (by rw [hse]; exact hk), hse]
    | some k => rw [dropStroke_some hk, dropStroke_some (by rw [hse]; exact hk), hse]

/-! ## Block Zone (R54) -/

section Requests
variable {src : Sender} {n : Byte} {s : State}

@[simp] theorem blockJudged_requestTaken (src : Sender) (s : State) (st : StationId) (n : Byte) :
    blockJudged (requestTaken src s) st n = blockJudged s st n := by simp [blockJudged]

@[simp] theorem unblockJudged_requestTaken (src : Sender) (s : State) (st : StationId) (n : Byte) :
    unblockJudged (requestTaken src s) st n = unblockJudged s st n := by simp [unblockJudged]

theorem exec_blockZone_refused (h : Reaches src s) {code : Code}
    (hj : blockJudged s (senderStation src) n = .inl code) :
    exec (.blockZone src n) s = .next (answered src 8 code .none s) := by
  rw [exec_blockZone, viaLink_answered h (f := takeBlockZone n) (k := 8) (c := code)]
  simp only [takeBlockZone, blockJudged_requestTaken, hj]
  rfl

/-- The state in which the blocks of a zone have been replaced and the sender is answered. -/
def blocksAnswered (src : Sender) (kind : Byte) (z : ZoneId) (b : ZoneBlocks) (s : State) : State :=
  answer (senderStation src) kind .ok (.zone z b.state (blockerCount b.set))
    { requestTaken src s with zt := { s.zt with blocks := upd s.zt.blocks z fun _ => b } }

section BlocksAnswered
variable (src : Sender) (k : Byte) (z : ZoneId) (b : ZoneBlocks) (s : State)
@[simp] theorem blocksAnswered_sm : (blocksAnswered src k z b s).sm = s.sm := by simp [blocksAnswered]
@[simp] theorem blocksAnswered_arb : (blocksAnswered src k z b s).arb = s.arb := by simp [blocksAnswered]
@[simp] theorem blocksAnswered_se : (blocksAnswered src k z b s).se = s.se := by simp [blocksAnswered]
@[simp] theorem blocksAnswered_cfg : (blocksAnswered src k z b s).cfg = s.cfg := by simp [blocksAnswered]
@[simp] theorem blocksAnswered_sensors : (blocksAnswered src k z b s).sensors = s.sensors := by
  simp [blocksAnswered]
@[simp] theorem blocksAnswered_slot (i : SlotId) : (blocksAnswered src k z b s).slot i = s.slot i :=
  slot_congr (by rw [blocksAnswered_sm]) i
@[simp] theorem blocksAnswered_blocks : (blocksAnswered src k z b s).zt.blocks
    = upd s.zt.blocks z fun _ => b := by simp [blocksAnswered]
theorem blocksAnswered_keeps : Keeps
    { requestTaken src s with zt := { s.zt with blocks := upd s.zt.blocks z fun _ => b } }
    (blocksAnswered src k z b s) := answer_keeps _ _ _ _ _
end BlocksAnswered

theorem answerZone_modBlocks (src : Sender) (k : Byte) (z : ZoneId) (f : ZoneBlocks → ZoneBlocks)
    (s : State) : answerZone (senderStation src) k z (modBlocks z f (requestTaken src s))
      = blocksAnswered src k z (f s.zt.blocks[z]) s := by
  have hzt : (requestTaken src s).zt = s.zt := requestTaken_zt src s
  have hself : (upd s.zt.blocks z f)[z] = f s.zt.blocks[z] := upd_same s.zt.blocks z f
  have hconst : upd s.zt.blocks z f = upd s.zt.blocks z fun _ => f s.zt.blocks[z] := rfl
  simp only [answerZone, blocksAnswered, modBlocks, hzt, hself]
  rw [hconst]

theorem exec_blockZone_taken (h : Reaches src s) {z : ZoneId}
    (hj : blockJudged s (senderStation src) n = .inr z) :
    ∃ t, exec (.blockZone src n) s = .next t
      ∧ Settled (if s.zt.blocks[z].state = .blocked
          then blocksAnswered src 8 z (withBlock (senderStation src) s.zt.blocks[z]) s
          else flush z (blocksAnswered src 8 z (withBlock (senderStation src) s.zt.blocks[z]) s)) t := by
  refine ⟨_, ?_, settled_linkClosed src _⟩
  rw [exec_blockZone, viaLink_reaches h]
  simp only [takeBlockZone, blockJudged_requestTaken, hj, requestTaken_zt]
  have hanswer := answerZone_modBlocks src kindBlockZone z (withBlock (senderStation src)) s
  rw [hanswer]
  simp
  rfl

end Requests

theorem blockJudged_zone {s : State} {n : Byte} {z : ZoneId} (st : StationId) (hn : n.toNat = z.val + 1) :
    blockJudged s st n
      = if !s.store.fault && !(hasRights s.cfg st z) then .inl .notPermitted else .inr z := by
  simp only [blockJudged, itemOf_number z hn]

/-- Settles O24: the zone's blocks, the answer, and the flush slot by slot; slots that the flush ends are
inert for the closing. -/
theorem blockZoneBlocksAndFlushes : Obligations.BlockZoneBlocksAndFlushes := by
  intro src n s hr
  refine ⟨fun hout => ?_, fun z hn hf hrights => ?_, fun z hn hg hrights => ?_⟩
  · have hitem : itemOf 5 n.toNat = none := itemOf_out (hout.imp_left fun h => by simp [h])
    exact exec_blockZone_refused hr (by simp only [blockJudged, hitem])
  · exact exec_blockZone_refused hr (by rw [blockJudged_zone _ hn, hf, hrights]; rfl)
  · have hj : blockJudged s (senderStation src) n = .inr z := by
      rw [blockJudged_zone _ hn]
      rcases hrights with h | h <;> simp [h]
    obtain ⟨t, ht, hsettled⟩ := exec_blockZone_taken hr hj
    generalize ha : blocksAnswered src 8 z (withBlock (senderStation src) s.zt.blocks[z]) s = a
      at hsettled
    have hkept : Keeps a (if s.zt.blocks[z].state = .blocked then a else flush z a) := by
      split
      · exact .refl a
      · exact flush_keeps z a
    have hkeeps := hkept.trans hsettled.toKeeps
    have hblocks : t.zt.blocks
        = upd s.zt.blocks z fun _ => withBlock (senderStation src) s.zt.blocks[z] := by
      rw [hkeeps.blocks, ← ha, blocksAnswered_blocks]
    have hslot (i : SlotId) : a.slot i = s.slot i := by rw [← ha, blocksAnswered_slot]
    have hflush (i : SlotId) : flushes a z i = flushes s z i :=
      flushes_congr (hslot i) (by rw [← ha, blocksAnswered_cfg])
    have hga : GrantInv a := by
      have harb : a.arb = s.arb := by rw [← ha, blocksAnswered_arb]
      have hse : a.se = s.se := by rw [← ha, blocksAnswered_se]
      simpa only [GrantInv, hslot, harb, hse] using hg
    have hown (y : ZoneId) : t.zt.blocks[y] = if y = z then
          { set := s.zt.blocks[z].set.set (senderStation src) true
            state := .blocked, releaseT := none } else s.zt.blocks[y] := by
      rw [hblocks]
      simp only [Fin.getElem_fin, upd_get, eq_comm (a := z)]
      rfl
    refine ⟨a, _, t, ht, ?_, rfl, hsettled, hown, ?_, fun i hi hspared => ?_, fun hb i hstate haxis => ?_,
      fun hb i hstate haxis => ?_⟩
    · rw [← ha, hblocks]
      simp [blocksAnswered, withBlock]
    · rw [hblocks]
      exact (ha ▸ blocksAnswered_keeps src 8 z _ s).trans hkeeps
    · by_cases hb : s.zt.blocks[z].state = .blocked
      · rw [if_pos hb] at hsettled
        rw [(hsettled.inert i (by rw [hslot]; exact hi)).1, hslot]
      · rw [if_neg hb] at hsettled
        have hnot : flushes a z i = false := by
          rw [hflush, ← Bool.not_eq_true, flushes_iff]
          rintro ⟨hstate, hzone⟩
          rcases hspared with h | h | h
          · exact hb h
          · exact h hzone
          · rcases hstate with h' | h' | h'
            · simp [Slot.inert, h'] at hi
            · simp [Slot.inert, h'] at hi
            · exact h h'
        have hsame := flush_slot_spared hnot
        rw [(hsettled.inert i (by rw [hsame, hslot]; exact hi)).1, hsame, hslot]
    · rw [if_neg hb] at hsettled
      have hne : (s.slot i).state ≠ .active ∧ (s.slot i).state ≠ .stopping := by
        rcases hstate with h | h <;> simp [h]
      refine hsettled.ended ((flush_slot_waiting ?_ ?_ ?_).trans (by rw [hslot]))
      · rw [hflush, flushes_iff]
        exact ⟨.inr hstate, haxis⟩
      · rw [hslot]; exact hne.1
      · rw [Ne, hga.1, hslot]
        exact fun h => h.elim hne.1 hne.2
    · rw [if_neg hb] at hsettled ⊢
      have hactive : flushes a z i = true := by
        rw [hflush, flushes_iff]
        exact ⟨.inl hstate, haxis⟩
      obtain ⟨hend, hholder, hse⟩ := flush_slot_active hga hactive (by rw [hslot]; exact hstate)
      rw [hslot, withLastMove_congr (s := s) (by rw [← ha, blocksAnswered_sensors])] at hend
      refine ⟨hsettled.ended hend, hholder, ?_, fun k hk => ?_⟩
      · rw [hse, dropStroke_stroke]
      · have hka : a.se.stroke = some k := by rw [← ha, blocksAnswered_se]; exact hk
        rw [hse, dropStroke_some hka]
        simp

end Sys2Proof.Machine
end

section
/-! PROOFS. Unblock Zone (R55, R56) and the traffic permit (R64, R65). -/

namespace Sys2Proof.Machine

/-! ## Unblock Zone -/

/-- A Block Set is empty when no station stands in it. -/
theorem blockerCount_eq_zero (set : Vector Bool 7) :
    blockerCount set = 0 ↔ ∀ st : StationId, set[st] = false := by
  rw [blockerCount, List.length_eq_zero_iff, List.filter_eq_nil_iff]
  have hall : ∀ st : StationId, st ∈ allStations := by decide
  simp only [Bool.not_eq_true]
  exact ⟨fun h st => h st (hall st), fun h st _ => h st⟩

theorem unblockSet_get (src : Sender) (set : Vector Bool 7) (st : StationId) :
    (unblockSet (senderStation src) set)[st]
      = (set[st] && src != .cab && st != senderStation src) := by
  cases src with
  | cab => simp [unblockSet, senderStation]
  | crew c k =>
    rw [senderStation, unblockSet, if_neg (stationOf_ne_cab c)]
    have hsender : (Sender.crew c k != Sender.cab) = true := by simp
    simp only [Fin.getElem_fin, upd_get, hsender, Bool.and_true]
    by_cases h : stationOf c = st
    · simp [h]
    · simp [h, Ne.symm h]

theorem unblockJudged_zone {s : State} {n : Byte} {z : ZoneId} (st : StationId)
    (hn : n.toNat = z.val + 1) : unblockJudged s st n
      = if (if st = 0 then blockerCount s.zt.blocks[z].set != 0 else s.zt.blocks[z].set[st]) = true
        then .inr z else .inl .wrongState := by
  simp only [unblockJudged, itemOf_number z hn]

theorem exec_unblockZone_refused {src : Sender} {n : Byte} {s : State} (h : Reaches src s) {code : Code}
    (hj : unblockJudged s (senderStation src) n = .inl code) :
    exec (.unblockZone src n) s = .next (answered src 9 code .none s) := by
  rw [exec_unblockZone, viaLink_answered h (f := takeUnblockZone n) (k := 9) (c := code)]
  simp only [takeUnblockZone, unblockJudged_requestTaken, hj]
  rfl

theorem exec_unblockZone_taken {src : Sender} {n : Byte} {s : State} (h : Reaches src s) {z : ZoneId}
    (hj : unblockJudged s (senderStation src) n = .inr z) :
    ∃ t, exec (.unblockZone src n) s = .next t
      ∧ Settled (blocksAnswered src 9 z
        (withoutBlock (senderStation src) s.cfg.zones[z].releaseDelay s.zt.blocks[z]) s) t := by
  refine ⟨_, ?_, settled_linkClosed src _⟩
  rw [exec_unblockZone, viaLink_reaches h]
  simp only [takeUnblockZone, unblockJudged_requestTaken, hj, requestTaken_cfg]
  have hanswer := answerZone_modBlocks src kindUnblockZone z
    (withoutBlock (senderStation src) s.cfg.zones[z].releaseDelay) s
  exact congrArg _ (congrArg (linkClosed src) (congrArg settle hanswer))

/-- A station whose block is to go stands in the Block Set. -/
theorem unblockJudged_stands {src : Sender} {s : State} {n : Byte} {z : ZoneId}
    (hn : n.toNat = z.val + 1)
    (hcrew : ∀ c k, src = .crew c k → s.zt.blocks[z].set[stationOf c] = true)
    (hcab : src = .cab → ∃ st : StationId, s.zt.blocks[z].set[st] = true) :
    unblockJudged s (senderStation src) n = .inr z := by
  rw [unblockJudged_zone _ hn, if_pos]
  cases src with
  | cab =>
    obtain ⟨st, hst⟩ := hcab rfl
    have hcount : blockerCount s.zt.blocks[z].set ≠ 0 := fun h0 => by
      rw [(blockerCount_eq_zero _).mp h0 st] at hst
      cases hst
    simpa [senderStation] using hcount
  | crew c k =>
    rw [senderStation, if_neg (stationOf_ne_cab c)]
    exact hcrew c k rfl

theorem unblockJudged_none {src : Sender} {s : State} {n : Byte} {z : ZoneId}
    (hn : n.toNat = z.val + 1)
    (hno : ∀ st : StationId, (src = .cab ∨ st = senderStation src) → s.zt.blocks[z].set[st] = false) :
    unblockJudged s (senderStation src) n = .inl .wrongState := by
  rw [unblockJudged_zone _ hn, if_neg]
  cases src with
  | cab =>
    have hcount := (blockerCount_eq_zero _).mpr fun st => hno st (.inl rfl)
    simpa [senderStation] using hcount
  | crew c k =>
    rw [senderStation, if_neg (stationOf_ne_cab c)]
    simpa [senderStation] using hno (stationOf c) (.inr rfl)

section WithoutBlock
variable {st : StationId} {d : Nat} {b : ZoneBlocks}

theorem withoutBlock_set : (withoutBlock st d b).set = unblockSet st b.set := by
  unfold withoutBlock
  dsimp only
  split
  · rfl
  · split <;> rfl

theorem withoutBlock_left (h : blockerCount (unblockSet st b.set) ≠ 0) :
    withoutBlock st d b = { b with set := unblockSet st b.set } := by
  simp [withoutBlock, h]

theorem withoutBlock_empty (h : blockerCount (unblockSet st b.set) = 0) :
    withoutBlock st d b = if d = 0 then
        { set := unblockSet st b.set, state := .unblocked, releaseT := none }
      else { set := unblockSet st b.set, state := .releasing, releaseT := some d } := by
  simp [withoutBlock, h]

end WithoutBlock

/-- Settles O25: the blocks that an Unblock Zone leaves, read off `withoutBlock`. -/
theorem unblockZoneReleasesAfterTheDelay : Obligations.UnblockZoneReleasesAfterTheDelay := by
  intro src z n s
  refine ⟨fun hr hn hcrew hcab => ?_, fun hr hn hno => ?_, fun hr hout => ?_, fun hd => ?_, fun hd => ?_⟩
  · obtain ⟨t, ht, hsettled⟩ := exec_unblockZone_taken hr (unblockJudged_stands hn hcrew hcab)
    generalize hb : withoutBlock (senderStation src) s.cfg.zones[z].releaseDelay s.zt.blocks[z] = b
      at hsettled
    have hblocks : t.zt.blocks = upd s.zt.blocks z fun _ => b := by
      rw [hsettled.blocks, blocksAnswered_blocks]
    have hown : t.zt.blocks[z] = b := by rw [hblocks]; exact upd_same _ _ _
    have hset : b.set = unblockSet (senderStation src) s.zt.blocks[z].set := hb ▸ withoutBlock_set
    refine ⟨_, t, ht, hsettled, ?_, fun st => ?_, ?_, fun hempty hdelay => ?_, fun hempty hdelay => ?_,
      fun y hy => ?_, ?_, fun i hi => ?_⟩
    · rw [hown, blocksAnswered, hblocks]
    · rw [hown, hset, unblockSet_get]
    · rw [hown]
      rintro ⟨st, hst⟩
      rw [← hb, withoutBlock_left]
      · exact ⟨rfl, rfl⟩
      · intro h0
        rw [← hset] at h0
        rw [(blockerCount_eq_zero _).mp h0 st] at hst
        cases hst
    · rw [hown] at hempty
      rw [hown, ← hb, withoutBlock_empty (by rw [← hset]; exact (blockerCount_eq_zero _).mpr hempty),
        if_neg hdelay]
      exact ⟨rfl, rfl⟩
    · rw [hown] at hempty
      rw [hown, ← hb, withoutBlock_empty (by rw [← hset]; exact (blockerCount_eq_zero _).mpr hempty),
        if_pos hdelay]
      exact ⟨rfl, rfl⟩
    · rw [hblocks]
      exact upd_ne _ _ (Ne.symm hy)
    · rw [hblocks]
      exact (blocksAnswered_keeps src 9 z b s).trans hsettled.toKeeps
    · rw [(hsettled.inert i (by rw [blocksAnswered_slot]; exact hi)).1, blocksAnswered_slot]
  · exact exec_unblockZone_refused hr (unblockJudged_none hn hno)
  · have hitem : itemOf 5 n.toNat = none := itemOf_out (hout.imp_left fun h => by simp [h])
    exact exec_unblockZone_refused hr (by simp only [unblockJudged, hitem])
  · rw [exec_releaseTimerExpiry, if_neg (mt due_iff.mp hd)]
  · rw [exec_releaseTimerExpiry, if_pos (due_iff.mpr hd)]
    generalize hu : modBlocks z (fun b => { b with state := .unblocked, releaseT := none }) s = u
    have hsettled := settle_settled u
    have hblocks : (settle u).zt.blocks
        = upd s.zt.blocks z fun b => { b with state := .unblocked, releaseT := none } := by
      rw [hsettled.blocks, ← hu]
      rfl
    have hkeeps : Keeps { s with zt := { s.zt with blocks := (settle u).zt.blocks } } u := by
      rw [hblocks, ← hu]
      exact .refl _
    refine ⟨_, rfl, fun y => ?_, hkeeps.trans hsettled.toKeeps, fun i hi => ?_⟩
    · rw [hblocks]
      simp only [Fin.getElem_fin, upd_get, eq_comm (a := z)]
      split
      · rename_i hy
        subst hy
        rfl
      · rfl
    · have hslot : u.slot i = s.slot i := hu ▸ rfl
      rw [(hsettled.inert i (by rw [hslot]; exact hi)).1, hslot]

/-! ## The traffic permit -/

/-- Judging Drive-Off never starts a permit. -/
theorem judgeDriveOff_noPermit {s : State} (h : s.zt.permitT = none) :
    (judgeDriveOff s).zt.permitT = none := by
  unfold judgeDriveOff
  split
  · split
    · exact h
    · exact h
  · split
    · exact (controlledStop_rel permitKept_slotReaction (.ending .vehicle) _).2
    · exact h

/-- Nor does the closing of a command. -/
theorem settle_noPermit {s : State} (h : s.zt.permitT = none) : (settle s).zt.permitT = none := by
  have hjudged := judgeDriveOff_noPermit (judgeDriveOff_noPermit h)
  unfold settle
  generalize judgeDriveOff (judgeDriveOff s) = u at *
  exact (permitKept_closing.afterDriveOff u).2.trans hjudged

theorem linkClosed_zt (src : Sender) (u : State) : (linkClosed src u).zt = u.zt := by
  cases src with
  | cab => exact sendNext_zt u
  | crew c n => rfl

theorem ceilDiv_seconds (n : Nat) : ceilDiv (1000 * n) 1000 = n := by
  unfold ceilDiv
  omega

section Permit
variable {src : Sender} {s : State}

theorem takePermit_refused (h : Reaches src s) {kind : Byte} {code : Code}
    (hj : permitRefusal s (senderStation src) kind = some code) :
    viaLink src (takePermit kind) s = answered src 10 code .none s := by
  refine viaLink_answered h (f := takePermit kind) (k := 10) (c := code) ?_
  have hj' : permitRefusal (requestTaken src s) (senderStation src) kind = some code := by
    simpa only [permitRefusal, requestTaken_store, requestTaken_zt] using hj
  rw [takePermit, hj']
  rfl

/-- The state in which the cab's Traffic Permit has been answered. -/
def permitAnswered (t : Timer) (s : State) : State := answerPermit 0 (setPermit t s)

theorem takePermit_taken (h : Reaches .cab s) {kind : Byte} {t : Timer}
    (hj : permitRefusal s 0 kind = none)
    (ht : (if kind = permitGrant then some (1000 * s.cfg.permitSeconds) else none) = t) :
    viaLink .cab (takePermit kind) s = linkClosed .cab (settle (permitAnswered t s)) := by
  subst ht
  rw [viaLink_reaches h]
  show linkClosed .cab (takePermit kind 0 s) = _
  rw [takePermit, hj]
  rfl

theorem permitAnswered_keeps (t : Timer) (s : State) : Keeps s (permitAnswered t s) :=
  Keeps.trans (t := setPermit t s) (by constructor <;> intros <;> rfl) (answer_keeps 0 kindTrafficPermit .ok (.permit (permitSeconds (setPermit t s))) (setPermit t s))

@[simp] theorem permitAnswered_permit (t : Timer) (s : State) : (permitAnswered t s).zt.permitT = t := by
  simp [permitAnswered, answerPermit, setPermit]

@[simp] theorem permitAnswered_slot (t : Timer) (s : State) (i : SlotId) :
    (permitAnswered t s).slot i = s.slot i := by
  rw [permitAnswered, answerPermit, answer_slot]
  rfl

theorem permitAnswered_noEntry {t : Timer} (h : roadSpeed s < 3) : NoDriveOffEntry (permitAnswered t s) := by
  refine .inr ?_
  rw [roadSpeed, (permitAnswered_keeps t s).veh]
  exact h

end Permit

/-- Settles O26: `takePermit` by its refusals; the closing ends a permit only at an entry into
Drive-Off, and starts none. -/
theorem trafficPermitIsGrantedAndEnds : Obligations.TrafficPermitIsGrantedAndEnds := by
  intro s
  refine ⟨fun hr hf hoff hspeed => ?_, fun hr hf hoff => ?_, fun hr hf => ⟨?_, ?_⟩, fun hr hf => ?_,
    fun hd => ?_, fun hd => ?_, fun c n hr => ⟨?_, ?_⟩⟩
  · have hj : permitRefusal s 0 permitGrant = none := by simp [permitRefusal, hf, hoff]
    have htaken := takePermit_taken hr hj (if_pos rfl)
    have hsettled := settled_linkClosed .cab (permitAnswered (some (1000 * s.cfg.permitSeconds)) s)
    refine ⟨_, _, congrArg Host.Outcome.next htaken, hsettled, ?_, ?_,
      (permitAnswered_keeps _ s).trans hsettled.toKeeps, fun i hi => ?_⟩
    · simp [permitAnswered, answerPermit, permitSeconds, setPermit, ceilDiv_seconds, kindTrafficPermit]
    · rw [hsettled.permit (permitAnswered_noEntry hspeed), permitAnswered_permit]
    · rw [(hsettled.inert i (by rw [permitAnswered_slot]; exact hi)).1, permitAnswered_slot]
  · exact congrArg Host.Outcome.next (takePermit_refused hr (by simp [permitRefusal, hf, hoff, senderStation]))
  · exact congrArg Host.Outcome.next (takePermit_refused hr (by simp [permitRefusal, hf, senderStation]))
  · exact congrArg Host.Outcome.next (takePermit_refused hr (by simp [permitRefusal, hf, senderStation]))
  · have hj : permitRefusal s 0 permitWithdraw = none := by
      simp [permitRefusal, hf, permitWithdraw, permitGrant]
    have htaken := takePermit_taken hr hj (if_neg (by decide))
    have hsettled := settled_linkClosed .cab (permitAnswered none s)
    refine ⟨_, _, congrArg Host.Outcome.next htaken, hsettled, ?_, ?_,
      (permitAnswered_keeps _ s).trans hsettled.toKeeps, fun i hi => ?_⟩
    · rfl
    · rw [linkClosed_zt]
      exact settle_noPermit (permitAnswered_permit none s)
    · rw [(hsettled.inert i (by rw [permitAnswered_slot]; exact hi)).1, permitAnswered_slot]
  · rw [exec_permitTimerExpiry, if_neg (mt due_iff.mp hd)]
  · have hsettled := settle_settled (setPermit none s)
    rw [exec_permitTimerExpiry, if_pos (due_iff.mpr hd)]
    refine ⟨_, rfl, settle_noPermit rfl, Keeps.trans (t := setPermit none s) ?_ hsettled.toKeeps,
      fun i hi => (hsettled.inert i hi).1⟩
    constructor <;> intros <;> rfl
  · exact congrArg Host.Outcome.next (takePermit_refused hr (by simp [permitRefusal, senderStation, stationOf_ne_cab]))
  · exact congrArg Host.Outcome.next (takePermit_refused hr (by simp [permitRefusal, senderStation, stationOf_ne_cab]))

end Sys2Proof.Machine
end

section
/-! PROOFS. The ends of strokes (R33, R109, R113, R114): what an end leaves of the grant, the strokes, the
slots and the queue, and the statements on the timers that end a stroke. -/

namespace Sys2Proof.Machine

/-! ## A step that completes leaves the grant and the strokes alone -/

/-- The grant, the pump, the strokes and the drives are as they were. -/
def SameGrant (s t : State) : Prop := t.arb = s.arb ∧ t.se = s.se

namespace SameGrant

theorem trans {s t u : State} (h : SameGrant s t) (g : SameGrant t u) : SameGrant s u :=
  ⟨g.1.trans h.1, g.2.trans h.2⟩

theorem released {s t : State} (h : SameGrant s t) {i : SlotId} (hs : s.arb.holder ≠ some i) :
    t.arb.holder ≠ some i := by rw [h.1]; exact hs

theorem place (st : StationId) (n : Notice) (s : State) : SameGrant s (place st n s) :=
  ⟨place_arb st n s, place_se st n s⟩

theorem modSlot (i : SlotId) (f : Slot → Slot) (s : State) : SameGrant s (modSlot i f s) := ⟨rfl, rfl⟩

theorem seqEnd {i : SlotId} {s : State} (h : s.arb.holder ≠ some i) (c : EndCause)
    (w : Option WaitReason) : SameGrant s (seqEnd i c w s) :=
  ⟨by rw [seqEnd_arb, if_neg h], seqEnd_se i c w s⟩

theorem toldPaused (i : SlotId) (x : Slot) (c : PauseCause) (s : State) :
    SameGrant s (toldPaused i x c s) := by
  unfold Machine.toldPaused
  dsimp only
  split
  · exact place _ _ s
  · split
    · exact place _ _ s
    · exact (place _ _ s).trans (place _ _ _)

theorem pauseSlot (i : SlotId) (c : PauseCause) (s : State) : SameGrant s (pauseSlot i c s) := by
  rw [pauseSlot_eq]
  exact (modSlot i _ s).trans (toldPaused _ _ _ _)

theorem toldStarted (i : SlotId) (x : Slot) (st : Step) (s : State) :
    SameGrant s (toldStarted i x st s) := ⟨toldStarted_arb i x st s, toldStarted_se i x st s⟩

theorem completeStep {next : SlotId → Bool → State → State} {i : SlotId}
    (hnext : ∀ c u, u.arb.holder ≠ some i → SameGrant u (next i c u)) {s : State}
    (h : s.arb.holder ≠ some i) : SameGrant s (completeStep next i s) := by
  unfold Machine.completeStep
  split
  · exact (modSlot i _ s).trans (hnext true (Machine.modSlot i _ s) h)
  · split
    · cases hf : (s.slot i).flag with
      | true =>
        rw [passEnd_set next hf]
        exact (modSlot i _ s).trans (seqEnd (s := Machine.modSlot i _ s) h _ _)
      | false =>
        have hcounted : SameGrant s (passCounted i s) := by
          constructor <;> simp [passCounted, progress]
        rw [passEnd_clear next hf]
        exact hcounted.trans (hnext false _ (hcounted.released h))
    · exact (modSlot i _ s).trans (seqEnd (s := Machine.modSlot i _ s) h _ _)

theorem startStep {next : SlotId → Bool → State → State} {i : SlotId}
    (hnext : ∀ c u, u.arb.holder ≠ some i → SameGrant u (next i c u)) {s : State}
    (h : s.arb.holder ≠ some i) (chained : Bool) : SameGrant s (startStep next i chained s) := by
  cases hst : (s.slot i).curStep with
  | none =>
    have hstrand : Machine.startStep next i chained s = strand i s := by simp only [Machine.startStep, hst]
    rw [hstrand]
    exact modSlot i _ s
  | some st =>
    have htold := toldStarted i (s.slot i) st s
    cases ha : st.action with
    | move =>
      rw [startStep_move hst ha]
      exact htold.trans ⟨rfl, rfl⟩
    | dwell =>
      rw [startStep_dwell hst ha]
      exact htold.trans (modSlot i _ _)
    | check =>
      rw [startStep_check hst ha]
      split
      · exact htold.trans (completeStep hnext (htold.released h))
      · exact htold.trans (seqEnd (htold.released h) _ _)

theorem becomeCurrent (n : Nat) {i : SlotId} (chained : Bool) {s : State} (h : s.arb.holder ≠ some i) :
    SameGrant s (becomeCurrent n i chained s) := by
  induction n generalizing chained s with
  | zero => exact modSlot i _ s
  | succ n ih =>
    unfold Machine.becomeCurrent
    dsimp only
    split
    · exact (modSlot i _ s).trans (pauseSlot i _ _)
    · split
      · exact (modSlot i _ s).trans (pauseSlot i _ _)
      · exact (modSlot i _ s).trans
          (startStep (fun c u hu => ih c hu) (s := Machine.modSlot i _ s) h chained)

/-- A step that completes while the slot does not hold the grant. -/
theorem stepDone {i : SlotId} {s : State} (h : s.arb.holder ≠ some i) : SameGrant s (stepDone i s) :=
  completeStep (fun c _ hu => becomeCurrent chainBound c hu) h

end SameGrant

/-! ## The axis at rest and the grant given back -/

/-- The axis of the stroke is at rest and a slot has given the grant back (R33, R114). -/
def rested (i : SlotId) (s : State) : State := releaseGrant i (dropStroke s)

section Rested
variable {i : SlotId} {s : State}

theorem dropStroke_keeps (s : State) : Keeps s (dropStroke s) := (keeps_slotReaction 0).dropStroke s

theorem rested_keeps (i : SlotId) (s : State) : Keeps s (rested i s) :=
  (dropStroke_keeps s).trans ((keeps_slotReaction i).releaseGrant _)

theorem rested_slot (h : s.arb.holder = some i) :
    (rested i s).slot i = withLastMove s (s.slot i) := by
  rw [rested, releaseGrant_slot_same, if_pos (by rw [dropStroke_holder]; exact h), dropStroke_slot,
    withLastMove_congr (dropStroke_sensors s)]

theorem rested_slot_ne {j : SlotId} (hj : j ≠ i) : (rested i s).slot j = s.slot j := by
  rw [rested, releaseGrant_slot_ne _ _ hj, dropStroke_slot]

theorem rested_cls (j : SlotId) : ((rested i s).slot j).block.cls = (s.slot j).block.cls := by
  by_cases hj : j = i
  · subst hj
    rw [rested, releaseGrant_slot_same]
    split <;> simp [withLastMove]
  · rw [rested_slot_ne hj]

theorem rested_holder_ne (i : SlotId) (s : State) : (rested i s).arb.holder ≠ some i :=
  releaseGrant_holder_ne i _

theorem rested_arb (h : s.arb.holder = some i) :
    (rested i s).arb = { (dropStroke s).arb with holder := none } := by
  rw [rested, releaseGrant_arb, if_pos (by rw [dropStroke_holder]; exact h)]

theorem rested_se (i : SlotId) (s : State) : (rested i s).se = (dropStroke s).se := releaseGrant_se i _

theorem rested_queue (i : SlotId) (s : State) : (rested i s).sm.queue = s.sm.queue := by
  rw [rested, releaseGrant_queue, dropStroke_sm]

theorem rested_notices (i : SlotId) (s : State) : SameNotices s (rested i s) :=
  (dropStroke_notices s).trans (releaseGrant_notices i _)

end Rested

/-! ## The end of a stroke -/

section StrokeEnds
variable {i : SlotId} {e : StrokeEnd} {s : State}

/-- A shortfall that the step's A flag covers completes the step (R6, R32). -/
theorem strokeEnds_covered (he : e.shortfall = true) {st : Step} (hst : (s.slot i).curStep = some st)
    (ha : st.acceptShort = true) : strokeEnds i e s = stepDone i (modSlot i
      (fun x => { x with run := { x.run with acceptShort := satInc 255 x.run.acceptShort } })
      (rested i s)) := by
  have hhas : (s.slot i).stepHas (·.acceptShort) = true := by simpa only [Slot.stepHas, hst] using ha
  have harr : e ≠ .arrived := by rintro rfl; cases he
  unfold strokeEnds
  dsimp only
  rw [if_neg harr, if_pos (by rw [dropStroke_slot, he, hhas]; rfl)]
  rfl

/-- Every end of the holder's stroke: the axis rests and the grant is released. -/
theorem strokeEnds_grant (h : s.arb.holder = some i) (e : StrokeEnd) : SameGrant (rested i s)
    (strokeEnds i e s) := by
  unfold strokeEnds
  dsimp only
  split
  · exact SameGrant.stepDone (s := rested i s) (rested_holder_ne i s)
  · split
    · exact (SameGrant.modSlot i _ (rested i s)).trans
        (SameGrant.stepDone (s := modSlot i _ (rested i s)) (rested_holder_ne i s))
    · refine ⟨?_, ?_⟩
      · rw [seqEnd_arb, rested_arb h, if_pos (by rw [dropStroke_holder]; exact h)]
      · rw [seqEnd_se, rested_se]

theorem strokeEnds_holder (h : s.arb.holder = some i) (e : StrokeEnd) :
    (strokeEnds i e s).arb.holder = none := by
  rw [(strokeEnds_grant h e).1, rested_arb h]

theorem strokeEnds_se (h : s.arb.holder = some i) (e : StrokeEnd) :
    (strokeEnds i e s).se = (dropStroke s).se := by
  rw [(strokeEnds_grant h e).2, rested_se]

theorem strokeEnds_keeps (i : SlotId) (e : StrokeEnd) (s : State) : Keeps s (strokeEnds i e s) :=
  (keeps_slotReaction i).strokeEnds e s

theorem strokeEnds_slot_ne {j : SlotId} (hj : j ≠ i) (e : StrokeEnd) :
    (strokeEnds i e s).slot j = s.slot j := ((othersKept_slotReaction i).strokeEnds e s j hj).1

/-- An end by a cause that no A flag covers ends the sequence with that cause (R33). -/
theorem strokeEnds_ended (h : s.arb.holder = some i) (harr : e ≠ .arrived)
    (hshort : (e.shortfall && (s.slot i).stepHas (·.acceptShort)) = false) :
    (strokeEnds i e s).slot i = endedRecord e.cause none (withLastMove s (s.slot i)) := by
  rw [strokeEnds_cause harr hshort, seqEnd_slot_same, endingSlot_dropStroke h]

variable {st : Step}

/-- A step that completes once the axis is at rest and the grant given back. -/
theorem rested_completes (h : s.arb.holder = some i) (hst : (s.slot i).curStep = some st)
    (f : Slot → Slot) (hf : ∀ x, (f x).block = x.block ∧ (f x).step = x.step) :
    StepCompletes s i (f (withLastMove s (s.slot i))) st (stepDone i (modSlot i f (rested i s))) := by
  have hslot : (modSlot i f (rested i s)).slot i = f (withLastMove s (s.slot i)) := by
    rw [slot_modSlot_same, rested_slot h]
  have hcur : (f (withLastMove s (s.slot i))).curStep = some st := by
    obtain ⟨hblock, hstep⟩ := hf (withLastMove s (s.slot i))
    rw [Slot.curStep, hblock, hstep]
    exact hst
  refine (completeStep_completes 63 (congrArg Slot.unmarked hslot) hcur
    (rested_holder_ne i s)).congr (rested_notices i s).symm (rested_queue i s).symm fun j => ?_
  rw [slot_modSlot]
  split
  · rename_i hij
    subst hij
    rw [(hf _).1, rested_cls]
  · rw [rested_cls]

theorem strokeEnds_arrived_completes (h : s.arb.holder = some i) (hst : (s.slot i).curStep = some st) :
    StepCompletes s i (withLastMove s (s.slot i)) st (strokeEnds i .arrived s) := by
  have hid : modSlot i id (rested i s) = rested i s := by
    have hset : upd (rested i s).sm.slots i id = (rested i s).sm.slots := by
      simp [upd]
    rw [modSlot, hset]
  have hcompletes := rested_completes h hst id fun _ => ⟨rfl, rfl⟩
  rw [hid] at hcompletes
  exact hcompletes

theorem strokeEnds_covered_completes (h : s.arb.holder = some i) (hst : (s.slot i).curStep = some st)
    (he : e.shortfall = true) (ha : st.acceptShort = true) :
    StepCompletes s i (withShortfall (withLastMove s (s.slot i))) st (strokeEnds i e s) := by
  rw [strokeEnds_covered he hst ha]
  exact rested_completes h hst (fun x => { x with run :=
    { x.run with acceptShort := satInc 255 x.run.acceptShort } }) fun _ => ⟨rfl, rfl⟩

end StrokeEnds

/-- The drives after the stroke is dropped: its axis at rest, the others as they were. -/
theorem dropStroke_drive {s : State} {k : Stroke} (hk : s.se.stroke = some k) (a : AxisId) :
    (dropStroke s).se.drives[a] = if a = k.axis then Drive.rest else s.se.drives[a] := by
  rw [dropStroke_some hk]
  simp only [Fin.getElem_fin, upd_get, eq_comm (a := k.axis)]

/-! ## The timers of a stroke -/

section Timers
variable {s : State} {k : Stroke} (hk : s.se.stroke = some k) {f : Stroke → Timer}
include hk

theorem strokeWith_due (h : f k = some 0) : strokeWith f s = some k := by
  rw [strokeWith, hk, Option.filter_some, if_pos (due_iff.mpr h)]

theorem strokeWith_running (h : f k ≠ some 0) : strokeWith f s = none := by
  rw [strokeWith, hk, Option.filter_some, if_neg (mt due_iff.mp h)]

end Timers

/-- The expiry of a stroke's timer ends it by the timer's cause (R106, R107, R110). -/
theorem exec_strokeTimer {c : Instr} {cause : EndCause} {s : State} {k : Stroke}
    (hk : s.se.stroke = some k)
    (hc : (c = .timeLimitExpiry ∧ k.limitT = some 0 ∧ cause = .timeout)
      ∨ (c = .stallTimerExpiry ∧ k.stallT = some 0 ∧ cause = .stalled)
      ∨ (c = .latchTimerExpiry ∧ k.latchT = some 0 ∧ cause = .latch)) :
    ∃ e : StrokeEnd, exec c s = .next (settle (strokeEnds k.slot e s)) ∧ e ≠ .arrived ∧ e.cause = cause
      ∧ (e.shortfall = true ↔ cause ≠ .latch) := by
  rcases hc with ⟨rfl, ht, rfl⟩ | ⟨rfl, ht, rfl⟩ | ⟨rfl, ht, rfl⟩
  · exact ⟨.timeout, by rw [exec_timeLimitExpiry, strokeWith_due hk ht], nofun, rfl, by decide⟩
  · exact ⟨.stalled, by rw [exec_stallTimerExpiry, strokeWith_due hk ht], nofun, rfl, by decide⟩
  · exact ⟨.latch, by rw [exec_latchTimerExpiry, strokeWith_due hk ht], nofun, rfl, by decide⟩

/-- Settles O35: the three timers are one case, the end of a stroke that is no arrival. -/
theorem strokeTimersEndTheStroke : Obligations.StrokeTimersEndTheStroke := by
  intro c cause s k st hk hh hst
  refine ⟨fun hc => ?_, fun hc => ?_⟩
  · rcases hc with ⟨rfl, ht⟩ | ⟨rfl, ht⟩ | ⟨rfl, ht⟩
    · rw [exec_timeLimitExpiry, strokeWith_running hk ht]
    · rw [exec_stallTimerExpiry, strokeWith_running hk ht]
    · rw [exec_latchTimerExpiry, strokeWith_running hk ht]
  · obtain ⟨e, hexec, harr, hcause, hshort⟩ := exec_strokeTimer hk hc
    have hsettled := settle_settled (strokeEnds k.slot e s)
    have hse := strokeEnds_se hh e
    have hcompletes (hl : cause ≠ .latch) (ha : st.acceptShort = true) :=
      strokeEnds_covered_completes hh hst (hshort.mpr hl) ha
    refine ⟨_, _, hexec, hsettled, strokeEnds_keeps _ _ _, by rw [hse, dropStroke_stroke],
      strokeEnds_holder hh e, ?_, fun a ha => ?_, fun j hj => strokeEnds_slot_ne hj e, fun hno => ?_,
      hcompletes, fun hl ha hc hr => ?_⟩
    · rw [hse, dropStroke_drive hk, if_pos rfl]; rfl
    · rw [hse, dropStroke_drive hk, if_neg ha]
    · have hhas : (s.slot k.slot).stepHas (·.acceptShort) = st.acceptShort := by
        simp only [Slot.stepHas, hst]
      have hnot : (e.shortfall && (s.slot k.slot).stepHas (·.acceptShort)) = false := by
        rw [hhas]
        rcases hno with hl | ha
        · have hes : e.shortfall = false := by simpa using mt hshort.mp (not_not.mpr hl)
          rw [hes, Bool.false_and]
        · rw [ha, Bool.and_false]
      rw [hsettled.ended (strokeEnds_ended hh harr hnot), hcause]
      rfl
    · exact hsettled.ended ((hcompletes hl ha).1 hc hr)

end Sys2Proof.Machine
end

section
/-! PROOFS. The Settle time, the ramp, the watchdog and the pump's timers at their expiry (R34, R84, R86 to
R88, R94, R95, R108, R114), and the drive level (R101). -/

namespace Sys2Proof.Machine

/-! ## The end of settling -/

section SettleEnd
variable {s : State} {k : Stroke}

theorem settleEnd_over (h : toGo k.dir k.t (s.lastPos k.axis) < -((s.axisCfg k.axis).tb : Int)) :
    settleEnd s k = .over := if_pos h

theorem settleEnd_latch (h : -((s.axisCfg k.axis).tb : Int) ≤ toGo k.dir k.t (s.lastPos k.axis))
    (hl : latchMissing s k.axis k.t = true) : settleEnd s k = .latch :=
  (if_neg (not_lt.mpr h)).trans (if_pos hl)

theorem settleEnd_short (h : ((s.axisCfg k.axis).tb : Int) < toGo k.dir k.t (s.lastPos k.axis))
    (hl : latchMissing s k.axis k.t = false) : settleEnd s k = .short :=
  (if_neg (by omega)).trans ((if_neg (by rw [hl]; exact nofun)).trans (if_pos h))

theorem settleEnd_arrived (h : -((s.axisCfg k.axis).tb : Int) ≤ toGo k.dir k.t (s.lastPos k.axis))
    (h' : toGo k.dir k.t (s.lastPos k.axis) ≤ ((s.axisCfg k.axis).tb : Int))
    (hl : latchMissing s k.axis k.t = false) : settleEnd s k = .arrived :=
  (if_neg (not_lt.mpr h)).trans ((if_neg (by rw [hl]; exact nofun)).trans (if_neg (not_lt.mpr h')))

theorem exec_settleTimer (hk : s.se.stroke = some k) (ht : k.settleT = some 0) :
    exec .settleTimerExpiry s = .next (settle (strokeEnds k.slot (settleEnd s k) s)) := by
  rw [exec_settleTimerExpiry, strokeWith_due hk ht]

end SettleEnd

/-- Settles O36: the four judgements of R108, each an end of the stroke. -/
theorem settleExpiryJudgesTheEnd : Obligations.SettleExpiryJudgesTheEnd := by
  intro s k st cause hk hh hst
  have hhas : (s.slot k.slot).stepHas (·.acceptShort) = st.acceptShort := by
    simp only [Slot.stepHas, hst]
  have hse (e : StrokeEnd) : (strokeEnds k.slot e s).se.stroke = none := by
    rw [strokeEnds_se hh, dropStroke_stroke]
  refine ⟨fun ht => ?_, fun ht => ?_, fun ht hcause => ?_⟩
  · rw [exec_settleTimerExpiry, strokeWith_running hk ht]
  · refine ⟨_, _, exec_settleTimer hk ht, settle_settled _, strokeEnds_keeps _ _ _, hse _,
      strokeEnds_holder hh _, fun hfar hl ha => ?_, fun hnear hnear' hl => ?_⟩
    · rw [settleEnd_short hfar hl]
      exact strokeEnds_covered_completes hh hst rfl ha
    · rw [settleEnd_arrived hnear hnear' hl]
      exact strokeEnds_arrived_completes hh hst
  · have hsettled := settle_settled (strokeEnds k.slot (settleEnd s k) s)
    refine ⟨_, _, exec_settleTimer hk ht, hsettled, strokeEnds_keeps _ _ _, hse _,
      strokeEnds_holder hh _, hsettled.ended (w := none) ?_⟩
    rcases hcause with ⟨hover, rfl⟩ | ⟨hin, hl, rfl⟩ | ⟨hfar, hl, ha, rfl⟩ | ⟨hnear, hnear', hl, hc, hr, rfl⟩
    · rw [settleEnd_over hover, strokeEnds_ended (e := .over) hh nofun rfl]
      rfl
    · rw [settleEnd_latch hin hl, strokeEnds_ended (e := .latch) hh nofun rfl]
      rfl
    · rw [settleEnd_short hfar hl, strokeEnds_ended (e := .short) hh nofun (by rw [hhas, ha]; rfl)]
      rfl
    · rw [settleEnd_arrived hnear hnear' hl]
      exact (strokeEnds_arrived_completes hh hst).1 hc hr

/-! ## The end of a controlled stop -/

section StopEnds
variable {k : Stroke} {s : State}

theorem stopEnds_interrupted (hh : s.arb.holder = some k.slot)
    (hi : (s.slot k.slot).interrupted = true) : stopEnds k s = if (s.slot k.slot).ownerLost = true
      then pauseSlot k.slot .ownerLost (rested k.slot s) else enqueue true k.slot (rested k.slot s) := by
  have hslot := stopOver_slot hh
  have hmark : ((stopOver k s).slot k.slot).interrupted = true := by rw [hslot]; exact hi
  have hlost : ((stopOver k s).slot k.slot).ownerLost = (s.slot k.slot).ownerLost := by rw [hslot]; rfl
  rw [← hlost]
  exact if_pos hmark

/-- Every end of a controlled stop: the axis rests and the grant is released. -/
theorem stopEnds_grant (hh : s.arb.holder = some k.slot) : SameGrant (rested k.slot s) (stopEnds k s) := by
  cases hi : (s.slot k.slot).interrupted with
  | false =>
    rw [stopEnds_ending hh hi]
    exact SameGrant.seqEnd (stopOver_holder k s) _ _
  | true =>
    rw [stopEnds_interrupted hh hi]
    split
    · exact SameGrant.pauseSlot _ _ _
    · exact ⟨rfl, rfl⟩

end StopEnds

/-- Settles O37: the outcome that R34 fixed in the slot decides between an end, a queue entry and a
pause. -/
theorem rampExpiryActsOnTheOutcome : Obligations.RampExpiryActsOnTheOutcome := by
  intro s k hk hh
  refine ⟨fun ht => ?_, fun ht => ?_⟩
  · rw [exec_rampTimerExpiry, strokeWith_running hk ht]
  · have hexec : exec .rampTimerExpiry s = .next (settle (stopEnds k s)) := by
      rw [exec_rampTimerExpiry, strokeWith_due hk ht]
    have hsettled := settle_settled (stopEnds k s)
    obtain ⟨harb, hse⟩ := stopEnds_grant hh
    rw [rested_se] at hse
    refine ⟨_, _, hexec, hsettled, (keeps_slotReaction 0).trans (rested_keeps k.slot s) ?_,
      by rw [hse, dropStroke_stroke], by rw [harb, rested_arb hh], ?_,
      fun j hj => ((othersKept_slotReaction k.slot).stopEnds rfl s j hj).1, fun cause hi he => ?_,
      fun hi hl => ?_, fun hi hl => ?_⟩
    · cases hi : (s.slot k.slot).interrupted with
      | false => rw [stopEnds_ending hh hi]; exact seqEnd_keeps _ _ _ _
      | true =>
        rw [stopEnds_interrupted hh hi]
        split
        · exact (keeps_slotReaction k.slot).pauseSlot _ _
        · exact (keeps_slotReaction k.slot).enqueue _ _
    · rw [hse, dropStroke_drive hk, if_pos rfl]; rfl
    · rw [hsettled.ended (stopEnds_ending_slot hh hi), he]
      rfl
    · rw [stopEnds_interrupted hh hi, if_neg (by rw [hl]; exact nofun)]
      refine ⟨?_, ?_, ?_, ?_⟩
      · rw [enqueue_slot_same]
      · rw [enqueue_slot_same, rested_slot hh]; exact hi
      · rw [enqueue_slot_same, rested_slot hh]; rfl
      · rw [enqueue_queue, if_pos rfl, rested_queue, insertFront_congr fun j => rested_cls j]
    · have hslot : (stopEnds k s).slot k.slot = { withLastMove s (s.slot k.slot) with
          state := .paused, pauseCause := some .ownerLost, ownerLost := false } := by
        rw [stopEnds_interrupted hh hi, if_pos hl, pauseSlot_slot_same, rested_slot hh]
      rw [(hsettled.inert k.slot (by rw [hslot]; rfl)).1, hslot]
      refine ⟨rfl, rfl, rfl, hi, ?_⟩
      rw [stopEnds_interrupted hh hi, if_pos hl]
      have htold := pauseSlot_notices k.slot (rested k.slot s) .ownerLost
      rw [rested_slot hh] at htold
      exact (toldPaused_same (rested_notices k.slot s) k.slot (s.slot k.slot) .ownerLost).trans htold

/-! ## Sensors in FAULT -/

/-- The Position States are derived, and the power state is judged where they change (R51, R167). -/
theorem derivePositions_eq (s : State) : derivePositions s = { s with
    zt := { s.zt with position := (derivePositions s).zt.position }
    sup := (derivePositions s).sup } := by
  unfold derivePositions
  dsimp only
  split
  · rfl
  · rw [judgePower_eq]

section DerivePositions
variable (s : State)
@[simp] theorem derivePositions_sm : (derivePositions s).sm = s.sm := by rw [derivePositions_eq]
@[simp] theorem derivePositions_arb : (derivePositions s).arb = s.arb := by rw [derivePositions_eq]
@[simp] theorem derivePositions_sensors : (derivePositions s).sensors = s.sensors := by
  rw [derivePositions_eq]
@[simp] theorem derivePositions_se : (derivePositions s).se = s.se := by rw [derivePositions_eq]
@[simp] theorem derivePositions_faults : (derivePositions s).faults = s.faults := by
  rw [derivePositions_eq]
@[simp] theorem derivePositions_slot (i : SlotId) : (derivePositions s).slot i = s.slot i :=
  slot_congr (by rw [derivePositions_sm]) i

/-- Only the Position States of what `Keeps` speaks of are changed. -/
theorem derivePositions_keeps : Keeps
    { s with zt := { s.zt with position := (derivePositions s).zt.position } } (derivePositions s) := by
  unfold derivePositions
  dsimp only
  split
  · exact .refl s
  · have hpos (z : State) : (judgePower z).zt = z.zt := by rw [judgePower_eq]
    rw [hpos]
    exact (keeps_slotReaction 0).judgePower _

end DerivePositions

/-- The sensor of an axis stands anew, and the Position States are derived from it (R51, R93). -/
def sensed (a : AxisId) (x : Sensor) (s : State) : State := derivePositions (setSensor a x s)

section Sensed
variable (a : AxisId) (x : Sensor) (s : State)
@[simp] theorem sensed_sm : (sensed a x s).sm = s.sm := by simp [sensed]
@[simp] theorem sensed_arb : (sensed a x s).arb = s.arb := by simp [sensed]
@[simp] theorem sensed_se : (sensed a x s).se = s.se := by simp [sensed]
@[simp] theorem sensed_faults : (sensed a x s).faults = s.faults := by simp [sensed]
@[simp] theorem sensed_sensors : (sensed a x s).sensors = upd s.sensors a fun _ => x := by simp [sensed]
@[simp] theorem sensed_slot (i : SlotId) : (sensed a x s).slot i = s.slot i :=
  slot_congr (by rw [sensed_sm]) i

theorem sensed_keeps {t : State} (h : Keeps (sensed a x s) t) :
    Keeps { s with sensors := t.sensors, zt := { s.zt with position := t.zt.position } } t := by
  rw [h.sensors, h.position, sensed_sensors]
  exact (derivePositions_keeps (setSensor a x s)).trans h

end Sensed

section SensorFaulted
variable {a : AxisId} {s : State}

theorem sensorFaulted_holder {i : SlotId} (hh : s.arb.holder = some i) (ha : (s.slot i).curAxis = some a) :
    sensorFaulted a s = strokeEnds i .sensor (report (.sensor a) s) := by
  have hcur : ((report (.sensor a) s).slot i).curAxis = some a := ha
  unfold sensorFaulted
  simp only [report_arb, hh, hcur, if_true]

theorem sensorFaulted_beside (h : ∀ i, s.arb.holder = some i → (s.slot i).curAxis ≠ some a) :
    sensorFaulted a s = report (.sensor a) s := by
  unfold sensorFaulted
  dsimp only
  split
  · rfl
  · rename_i i hi
    exact if_neg (h i hi)

/-- By cases on whether the fault stops a stroke. -/
theorem sensorFaulted_cases (a : AxisId) (s : State) : sensorFaulted a s = report (.sensor a) s
    ∨ ∃ i, s.arb.holder = some i ∧ (s.slot i).curAxis = some a
      ∧ sensorFaulted a s = strokeEnds i .sensor (report (.sensor a) s) := by
  by_cases h : ∀ i, s.arb.holder = some i → (s.slot i).curAxis ≠ some a
  · exact .inl (sensorFaulted_beside h)
  · push Not at h
    obtain ⟨i, hh, ha⟩ := h
    exact .inr ⟨i, hh, ha, sensorFaulted_holder hh ha⟩

theorem sensorFaulted_keeps (a : AxisId) (s : State) : Keeps s (sensorFaulted a s) := by
  rcases sensorFaulted_cases a s with h | ⟨i, -, -, h⟩
  · rw [h]; exact report_keeps _ s
  · rw [h]; exact (report_keeps _ s).trans (strokeEnds_keeps _ _ _)

theorem sensorFaulted_flag (a : AxisId) (s : State) :
    flagIn (sensorFaulted a s).faults (.sensor a) = true := by
  have hraised : flagIn (report (.sensor a) s).faults (.sensor a) = true := by
    simp [flagIn_raiseFlag]
  rcases sensorFaulted_cases a s with h | ⟨i, -, -, h⟩
  · rw [h]; exact hraised
  · rw [h]; exact ((Mild.slotReaction i).strokeEnds .sensor _).raised _ hraised

theorem sensorFaulted_slot_ne {j : SlotId} (hj : s.arb.holder ≠ some j) :
    (sensorFaulted a s).slot j = s.slot j := by
  rcases sensorFaulted_cases a s with h | ⟨i, hh, -, h⟩
  · rw [h]; rfl
  · rw [h]
    refine (strokeEnds_slot_ne ?_ .sensor).trans rfl
    rintro rfl
    exact hj hh

/-- The holder whose step is on the axis ends SENSOR (R95). -/
theorem sensorFaulted_ended {i : SlotId} (hh : s.arb.holder = some i)
    (ha : (s.slot i).curAxis = some a) : (sensorFaulted a s).slot i = endedRecord .sensor none
      { s.slot i with run := { (s.slot i).run with lastMove := some (a, s.sensors[a].last) } } := by
  rw [sensorFaulted_holder hh ha, strokeEnds_ended (e := .sensor) (s := report (.sensor a) s) hh nofun rfl]
  have hslot : (report (.sensor a) s).slot i = s.slot i := rfl
  rw [hslot, withLastMove, ha]
  rfl

end SensorFaulted

/-- Settles O34: the expiry faults the sensor (`sensorFaulted`), and slots that end are inert. -/
theorem watchdogExpiryFaultsTheSensor : Obligations.WatchdogExpiryFaultsTheSensor := by
  intro a s
  refine ⟨fun hd => ?_, fun hd => ?_⟩
  · rw [exec_sampleWatchdogExpiry, if_neg (mt due_iff.mp hd)]
  · have hexec : exec (.sampleWatchdogExpiry a) s = .next (settle (sensorFaulted a
        (sensed a { s.sensors[a] with state := .fault, watchdog := none } s))) := by
      rw [exec_sampleWatchdogExpiry, if_pos (due_iff.mpr hd)]
      rfl
    generalize hx : ({ s.sensors[a] with state := .fault, watchdog := none } : Sensor) = x at hexec
    have hlast : x.last = s.sensors[a].last := by rw [← hx]
    have hsettled := settle_settled (sensorFaulted a (sensed a x s))
    have hkeeps := (sensorFaulted_keeps a (sensed a x s)).trans hsettled.toKeeps
    refine ⟨_, hexec, fun b => ?_, hsettled.raised _ (sensorFaulted_flag a _), fun i hh ha => ?_,
      fun j hj hinert => ?_, sensed_keeps a x s hkeeps⟩
    · rw [hkeeps.sensors, sensed_sensors]
      simp only [Fin.getElem_fin, upd_get, eq_comm (a := a)]
    · have hended := sensorFaulted_ended (a := a) (s := sensed a x s)
        (by rw [sensed_arb]; exact hh) (by rw [sensed_slot]; exact ha)
      rw [hsettled.ended hended, sensed_slot, sensed_sensors, Fin.getElem_fin, upd_same, hlast]
    · have hsame : (sensorFaulted a (sensed a x s)).slot j = s.slot j := by
        rw [sensorFaulted_slot_ne (by rw [sensed_arb]; exact hj), sensed_slot]
      rw [(hsettled.inert j (by rw [hsame]; exact hinert)).1, hsame]

/-! ## The pump fails -/

/-- A stroke that ends while the pump does not flow leaves the pump as it was. -/
theorem dropStroke_arb {s : State} (h : s.arb.pump ≠ .flowing) : (dropStroke s).arb = s.arb := by
  cases hk : s.se.stroke with
  | none => rw [dropStroke_none hk]
  | some k =>
    rw [dropStroke_some hk]
    unfold flowEnds
    rw [if_neg h]

theorem report_slot (f : Flag) (s : State) (i : SlotId) : (report f s).slot i = s.slot i := rfl

theorem pumpFault_arb (c : PumpCause) (s : State) : (pumpFault c s).arb
    = { s.arb with pump := .fault, startT := none, runOnT := none, lossT := none } := by
  rw [pumpFault, report_arb, placeAll_arb]

theorem pumpFault_slot (c : PumpCause) (s : State) (i : SlotId) : (pumpFault c s).slot i = s.slot i := by
  rw [pumpFault, report_slot, placeAll_slot]
  rfl

theorem pumpFault_sensors (c : PumpCause) (s : State) : (pumpFault c s).sensors = s.sensors := by
  rw [pumpFault, report_sensors, placeAll_sensors]

theorem pumpFault_flag (c : PumpCause) (s : State) : flagIn (pumpFault c s).faults .pump = true := by
  simp [pumpFault, flagIn_raiseFlag]

theorem pumpFault_keeps (c : PumpCause) (s : State) : Keeps s (pumpFault c s) := by
  refine Keeps.trans (t := { s with arb :=
    { s.arb with pump := .fault, startT := none, runOnT := none, lossT := none } }) ?_
    ((placeAll_keeps _ _).trans (report_keeps _ _))
  constructor <;> intros <;> rfl

section PumpFailed
variable {c : PumpCause} {s : State}

theorem pumpFailed_free (hh : s.arb.holder = none) : pumpFailed c s = pumpFault c s := by
  have hholder : (pumpFault c s).arb.holder = none := by rw [pumpFault_arb]; exact hh
  unfold pumpFailed
  dsimp only
  rw [hholder]

theorem pumpFailed_held {i : SlotId} (hh : s.arb.holder = some i) :
    pumpFailed c s = strokeEnds i .pump (pumpFault c s) := by
  have hholder : (pumpFault c s).arb.holder = some i := by rw [pumpFault_arb]; exact hh
  unfold pumpFailed
  dsimp only
  rw [hholder]

theorem pumpFailed_arb (c : PumpCause) (s : State) : (pumpFailed c s).arb
    = { s.arb with holder := none, pump := .fault, startT := none, runOnT := none, lossT := none } := by
  cases hh : s.arb.holder with
  | none => rw [pumpFailed_free hh, pumpFault_arb, ← hh]
  | some i =>
    have hholder : (pumpFault c s).arb.holder = some i := by rw [pumpFault_arb]; exact hh
    rw [pumpFailed_held hh, (strokeEnds_grant hholder .pump).1, rested_arb hholder,
      dropStroke_arb (by rw [pumpFault_arb]; exact nofun), pumpFault_arb]

theorem pumpFailed_keeps (c : PumpCause) (s : State) : Keeps s (pumpFailed c s) := by
  cases hh : s.arb.holder with
  | none => rw [pumpFailed_free hh]; exact pumpFault_keeps c s
  | some i => rw [pumpFailed_held hh]; exact (pumpFault_keeps c s).trans (strokeEnds_keeps _ _ _)

theorem pumpFailed_flag (c : PumpCause) (s : State) :
    flagIn (pumpFailed c s).faults .pump = true := by
  cases hh : s.arb.holder with
  | none => rw [pumpFailed_free hh]; exact pumpFault_flag c s
  | some i =>
    rw [pumpFailed_held hh]
    exact ((Mild.slotReaction i).strokeEnds .pump _).raised _ (pumpFault_flag c s)

theorem pumpFailed_slot_ne {j : SlotId} (hj : s.arb.holder ≠ some j) :
    (pumpFailed c s).slot j = s.slot j := by
  cases hh : s.arb.holder with
  | none => rw [pumpFailed_free hh, pumpFault_slot]
  | some i =>
    rw [pumpFailed_held hh, strokeEnds_slot_ne (by rintro rfl; exact hj hh), pumpFault_slot]

/-- The holder ends PUMP (R86, R88). -/
theorem pumpFailed_ended {i : SlotId} (hh : s.arb.holder = some i) :
    (pumpFailed c s).slot i = endedRecord .pump none (withLastMove s (s.slot i))
      ∧ (pumpFailed c s).se.stroke = none := by
  have hholder : (pumpFault c s).arb.holder = some i := by rw [pumpFault_arb]; exact hh
  rw [pumpFailed_held hh]
  refine ⟨?_, by rw [strokeEnds_se hholder, dropStroke_stroke]⟩
  rw [strokeEnds_ended (e := .pump) hholder nofun rfl, pumpFault_slot, withLastMove_congr (pumpFault_sensors c s)]
  rfl

end PumpFailed

/-- Settles O32: both failures of the pump are `pumpFailed`, from which no closing leaves FAULT. -/
theorem pumpTimersStopThePump : Obligations.PumpTimersStopThePump := by
  intro c s
  refine ⟨fun ht => ?_, fun hc => ?_, fun hc => ?_⟩
  · rw [exec_runOnTimerExpiry, if_pos (due_iff.mpr ht)]
  · rcases hc with ⟨rfl, ht⟩ | ⟨rfl, ht⟩ | ⟨rfl, ht⟩
    · rw [exec_runOnTimerExpiry, if_neg (mt due_iff.mp ht)]
    · rw [exec_startTimerExpiry, if_neg (mt due_iff.mp ht)]
    · rw [exec_pressureLossTimerExpiry, if_neg (mt due_iff.mp ht)]
  · have hexec : ∃ cause, exec c s = .next (settle (pumpFailed cause s)) := by
      rcases hc with ⟨rfl, ht⟩ | ⟨rfl, ht⟩
      · exact ⟨.start, by rw [exec_startTimerExpiry, if_pos (due_iff.mpr ht)]⟩
      · exact ⟨.pressure, by rw [exec_pressureLossTimerExpiry, if_pos (due_iff.mpr ht)]⟩
    obtain ⟨cause, hexec⟩ := hexec
    have hsettled := settle_settled (pumpFailed cause s)
    have harb := pumpFailed_arb cause s
    refine ⟨_, _, hexec, hsettled, pumpFailed_keeps cause s, hsettled.pumpFault.mpr (by rw [harb]),
      hsettled.raised _ (pumpFailed_flag cause s), by rw [harb], by rw [harb], by rw [harb],
      fun i hh => ?_, fun j hj hinert => ?_⟩
    · obtain ⟨hended, hstroke⟩ := pumpFailed_ended (c := cause) hh
      exact ⟨hsettled.ended hended, by rw [harb], hstroke⟩
    · have hsame : (pumpFailed cause s).slot j = s.slot j := pumpFailed_slot_ne hj
      rw [(hsettled.inert j (by rw [hsame]; exact hinert)).1, hsame]

/-! ## The drive level -/

/-- A ramp in a window starts at the minimum and stays under the ceiling (R101). -/
theorem ramp_bounds {vmin vc w x : Nat} (hv : vmin ≤ vc) : vmin ≤ (if 0 < w ∧ x < w
      then vmin + (vc - vmin) * x / w else vc)
    ∧ (if 0 < w ∧ x < w then vmin + (vc - vmin) * x / w else vc) ≤ vc := by
  split
  · rename_i h
    obtain ⟨-, hx⟩ := h
    have hdiv : (vc - vmin) * x / w ≤ vc - vmin :=
      Nat.div_le_of_le_mul (by rw [Nat.mul_comm w]; exact Nat.mul_le_mul_left _ hx.le)
    generalize (vc - vmin) * x / w = level at hdiv ⊢
    omega
  · exact ⟨hv, le_rfl⟩

/-- Settles O39: both ramps lie within the bounds (`ramp_bounds`). -/
theorem driveLevelStaysWithinVminAndCeiling : Obligations.DriveLevelStaysWithinVminAndCeiling := by
  intro x k p hv
  obtain ⟨hup, hup'⟩ := ramp_bounds (w := k.ws) (x := min (gapOf p k.s) k.dist) hv
  obtain ⟨hdn, hdn'⟩ := ramp_bounds (w := k.we) (x := remaining k.dir k.t p) hv
  unfold driveLevel
  dsimp only
  refine ⟨le_min hup hdn, (min_le_left _ _).trans hup', fun hs he => ?_, fun hp hws => ?_⟩
  · rw [if_neg (by omega), if_neg (by omega), min_self]
  · have hrun : min (gapOf p k.s) k.dist = 0 := by simp [gapOf, hp]
    rw [hrun, if_pos ⟨hws, hws⟩, Nat.mul_zero, Nat.zero_div, Nat.add_zero]
    exact min_eq_left hdn

end Sys2Proof.Machine
end

section
/-! PROOFS. Eligibility (R75): each mask and each term of the zone permit as a condition on the state. -/

namespace Sys2Proof.Machine

/-- A Conflict Table entry's direction covers a motion (R58). -/
def dirCovers (b : BlockedDir) (d : Dir) : Bool :=
  match b with
  | .both => true
  | .extend => d == .extend
  | .retract => d == .retract

/-- The guarded axis of an entry stands in its range, or is not VALID (R59). -/
def guardStands (s : State) (g : AxisId) (e : ConflictEntry) : Bool :=
  match s.axisPos g with
  | some p => within e.lo e.hi p
  | none => true

section Judgements
variable (s : State)

theorem holdMasks_eq_false (x : Slot) : holdMasks s x = false ↔ s.arb.hold ≠ .full
    ∧ (s.arb.hold = .partly → x.block.cls = .recovery ∨ levelOf s.cfg x.owner ≠ 0) := by
  unfold holdMasks
  cases s.arb.hold with
  | none => simp
  | partly => simp [or_iff_not_imp_left]
  | full => simp

theorem maskReason_eq_none (x : Slot) : maskReason s x = none ↔ holdMasks s x = false
    ∧ (s.sup.supply = .exhausted → x.block.cls = .recovery) ∧ s.arb.pump ≠ .fault := by
  unfold maskReason
  split
  · rename_i h; simp [h]
  · rename_i h
    split
    · rename_i hs
      simp [hs.1, hs.2]
    · rename_i hs
      split
      · rename_i hp; simp [hp]
      · rename_i hp
        simp only [true_iff]
        exact ⟨by simpa using h, fun he => by_contra fun hc => hs ⟨he, hc⟩, hp⟩

theorem vehicleOk_iff : vehicleOk s = true
    ↔ ∃ v, s.veh.status = some v ∧ s.veh.freshT ≠ none ∧ v.brake = true ∧ v.speed = 0 := by
  unfold vehicleOk State.fresh
  cases hv : s.veh.status with
  | none => simp
  | some v => simp [Option.isSome_iff_ne_none]

theorem axisPos_eq_some (a : AxisId) (p : Nat) :
    s.axisPos a = some p ↔ s.sensors[a].state = .valid ∧ s.sensors[a].last = some p := by
  unfold State.axisPos
  split
  · rename_i h
    exact (and_iff_right h).symm
  · rename_i h
    exact ⟨nofun, fun hv => absurd hv.1 h⟩

theorem blockedFails_eq_false (a : AxisId) : blockedFails s a = false
    ↔ ∀ z, s.axisZone a = some z → s.zt.blocks[z].state = .unblocked := by
  unfold blockedFails zoneClosed
  cases s.axisZone a with
  | none => simp
  | some z => simp

omit s in
theorem covers_iff (b : BlockedDir) (p t : Nat) : dirCovers b (dirOf p t) = true
    ↔ b = .both ∨ (b = .extend ∧ p < t) ∨ (b = .retract ∧ t ≤ p) := by
  unfold dirOf
  cases b with
  | both => simp [dirCovers]
  | extend => by_cases h : p < t <;> simp [dirCovers, h]
  | retract => by_cases h : p < t <;> simp [dirCovers, h, Nat.le_of_not_lt]

theorem guardStands_eq_false (g : AxisId) (e : ConflictEntry) : guardStands s g e = false
    ↔ ∃ q, s.sensors[g].state = .valid ∧ s.sensors[g].last = some q ∧ (q < e.lo ∨ e.hi < q) := by
  unfold guardStands
  simp only [← and_assoc, ← axisPos_eq_some]
  cases s.axisPos g with
  | none => simp
  | some q =>
    have hout : q < e.lo ∨ e.hi < q ↔ (e.lo ≤ q → e.hi < q) := by omega
    simp [within, hout]

/-- An entry forbids a motion of its blocked axis in a direction it covers while its guarded axis stands in
its range (R58, R59). -/
theorem entryForbids_eq {e : ConflictEntry} {g b : AxisId} (hg : e.guarded = some g)
    (hb : e.blocked = some b) (a : AxisId) (d : Dir) : entryForbids s a d e
      = ((s.axisCfg g).present && (s.axisCfg b).present && b == a && dirCovers e.dir d
        && guardStands s g e) := by
  unfold entryForbids
  rw [hg, hb]
  rfl

theorem entryForbids_eq_false (a : AxisId) (p t : Nat) (e : ConflictEntry) :
    entryForbids s a (dirOf p t) e = false ↔ ∀ g : AxisId, e.guarded = some g → e.blocked = some a →
      (s.axisCfg g).present = true → (s.axisCfg a).present = true →
      (e.dir = .both ∨ (e.dir = .extend ∧ p < t) ∨ (e.dir = .retract ∧ t ≤ p)) →
      ∃ q, s.sensors[g].state = .valid ∧ s.sensors[g].last = some q ∧ (q < e.lo ∨ e.hi < q) := by
  simp only [← covers_iff, ← guardStands_eq_false]
  cases hg : e.guarded with
  | none => simp [entryForbids, hg]
  | some g =>
    cases hb : e.blocked with
    | none => simp [entryForbids, hg, hb]
    | some b =>
      rw [entryForbids_eq s hg hb]
      by_cases hba : b = a
      · subst hba
        simp
      · simp [hba]

theorem conflictFails_eq_false (a : AxisId) (p t : Nat) : conflictFails s a p t = false
    ↔ ∀ e ∈ s.cfg.conflicts, entryForbids s a (dirOf p t) e = false := by
  simp [conflictFails]

theorem trafficFails_eq_false (a : AxisId) (p t : Nat) : trafficFails s a p t = false
    ↔ ∀ z, s.axisZone a = some z → s.cfg.zones[z].trafficSide = true →
      towardHome p t (s.axisCfg a).home (s.axisCfg a).tb = false → s.zt.permitT ≠ none := by
  unfold trafficFails
  cases s.axisZone a with
  | none => simp
  | some z => simp [← Option.isSome_iff_ne_none]

theorem confirmHeld_iff (b : Block) :
    confirmHeld s b = true ↔ ∃ c, b.confirm = some c ∧ s.crew[c].enable = true := by
  unfold confirmHeld
  cases b.confirm <;> simp

theorem near_eq_false (x y tol : Nat) : near x y tol = false ↔ tol < gapOf x y := by
  simp [near]

theorem permitReason_eq_none (b : Block) (st : Step) (a : AxisId) : permitReason s b st a = none
    ↔ vehicleOk s = true ∧ ∃ p, s.axisPos a = some p ∧ blockedFails s a = false
      ∧ ((s.axisCfg a).tb < gapOf st.target p →
        conflictFails s a p st.target = false ∧ trafficFails s a p st.target = false)
      ∧ (st.holdToRun = true → confirmHeld s b = true) := by
  unfold permitReason
  cases hv : vehicleOk s with
  | false => simp
  | true =>
    cases hp : s.axisPos a with
    | none => simp
    | some p =>
      simp only [Bool.not_true, Bool.false_eq_true, if_false, true_and, Option.some.injEq,
        exists_eq_left', ← near_eq_false]
      cases blockedFails s a with
      | true => simp
      | false =>
        cases near st.target p (s.axisCfg a).tb with
        | true => simp
        | false =>
          cases conflictFails s a p st.target with
          | true => simp
          | false =>
            cases trafficFails s a p st.target with
            | true => simp
            | false => simp

theorem motionReason_eq_none (x : Slot) (st : Step) (a : AxisId) : motionReason s x st a = none
    ↔ maskReason s x = none ∧ permitReason s x.block st a = none := by
  rw [motionReason, Option.or_eq_none_iff]

theorem warnReason_eq_none (a : AxisId) : warnReason s a = none
    ↔ ∃ z, s.axisZone a = some z ∧ s.bu.warns[z].state = .warned ∧ s.bu.warns[z].runOut = false := by
  unfold warnReason
  cases s.axisZone a with
  | none => simp
  | some z =>
    cases hr : s.bu.warns[z].runOut with
    | true =>
      dsimp only
      rw [if_pos hr]
      refine ⟨nofun, ?_⟩
      rintro ⟨y, hy, -, hr'⟩
      cases hy
      exact absurd (hr.symm.trans hr') nofun
    | false =>
      dsimp only
      rw [if_neg (by rw [hr]; exact nofun)]
      split
      · rename_i hw
        exact ⟨fun _ => ⟨z, rfl, hw, hr⟩, fun _ => rfl⟩
      · rename_i hw
        refine ⟨nofun, ?_⟩
        rintro ⟨y, hy, hw', -⟩
        cases hy
        exact absurd hw' hw

theorem blockReason_eq_none (x : Slot) : blockReason s x = none ↔ ∃ (st : Step) (a : AxisId),
    x.curStep = some st ∧ x.curAxis = some a ∧ motionReason s x st a = none
      ∧ warnReason s a = none := by
  unfold blockReason
  cases x.curStep with
  | none => simp
  | some st =>
    cases x.curAxis with
    | none => simp
    | some a => simp

theorem eligible_iff (i : SlotId) : eligible s i = true
    ↔ (s.slot i).state = .queued ∧ blockReason s (s.slot i) = none := by
  simp [eligible]

end Judgements

/-- Settles O29: the judgements of R68 and R75 one after the other. -/
theorem eligibleSlotPassesEveryCheck : Obligations.EligibleSlotPassesEveryCheck := by
  intro s
  refine ⟨fun i => ?_, fun x st => ?_, fun x st a => ?_⟩
  · rw [eligible_iff, blockReason_eq_none]
    refine and_congr_right fun _ => ⟨?_, ?_⟩
    · rintro ⟨st, a, hst, ha, hm, hw⟩
      obtain ⟨z, hz, hwarned, hrun⟩ := (warnReason_eq_none s a).mp hw
      exact ⟨st, a, z, hst, ha, hz, hm, hwarned, hrun⟩
    · rintro ⟨st, a, z, hst, ha, hz, hm, hwarned, hrun⟩
      exact ⟨st, a, hst, ha, hm, (warnReason_eq_none s a).mpr ⟨z, hz, hwarned, hrun⟩⟩
  · unfold checkReason
    cases st.axisId with
    | none => simp
    | some a => simp
  · rw [motionReason_eq_none, maskReason_eq_none, holdMasks_eq_false, permitReason_eq_none]
    simp only [vehicleOk_iff, axisPos_eq_some, blockedFails_eq_false, conflictFails_eq_false,
      entryForbids_eq_false, trafficFails_eq_false, confirmHeld_iff]
    constructor
    · rintro ⟨⟨⟨hfull, hpart⟩, hsup, hpump⟩, hveh, p, ⟨hv, hl⟩, hz, hmove, hheld⟩
      exact ⟨hfull, hpump, hpart, hsup, hveh, ⟨p, hv, hl, hz, hmove⟩, hheld⟩
    · rintro ⟨hfull, hpump, hpart, hsup, hveh, ⟨p, hv, hl, hz, hmove⟩, hheld⟩
      exact ⟨⟨⟨hfull, hpart⟩, hsup, hpump⟩, hveh, p, ⟨hv, hl⟩, hz, hmove, hheld⟩

end Sys2Proof.Machine
end

section
/-! PROOFS. The start of a stroke (R97 to R102, R110) and the grant (R76). -/

namespace Sys2Proof.Machine

/-! ## The start of a stroke -/

/-- A slot's completion record takes the join-dropped mark, where one is to be set (R38, R112). -/
def joinMarked (b : Bool) (i : SlotId) (s : State) : State := if b = true then markJoinDropped i s else s

section JoinMarked
variable (b : Bool) (i : SlotId) (s : State)

theorem joinMarked_eq : joinMarked b i s = { s with sm := (joinMarked b i s).sm } := by
  unfold joinMarked
  split <;> rfl

@[simp] theorem joinMarked_arb : (joinMarked b i s).arb = s.arb := by rw [joinMarked_eq]
@[simp] theorem joinMarked_se : (joinMarked b i s).se = s.se := by rw [joinMarked_eq]
@[simp] theorem joinMarked_zt : (joinMarked b i s).zt = s.zt := by rw [joinMarked_eq]
@[simp] theorem joinMarked_sensors : (joinMarked b i s).sensors = s.sensors := by rw [joinMarked_eq]
@[simp] theorem joinMarked_cfg : (joinMarked b i s).cfg = s.cfg := by rw [joinMarked_eq]
@[simp] theorem joinMarked_sup : (joinMarked b i s).sup = s.sup := by rw [joinMarked_eq]
@[simp] theorem joinMarked_lines : (joinMarked b i s).lines = s.lines := by rw [joinMarked_eq]

@[simp] theorem joinMarked_queue : (joinMarked b i s).sm.queue = s.sm.queue := by
  unfold joinMarked
  split <;> rfl

theorem joinMarked_slot : (joinMarked b i s).slot i = { s.slot i with run :=
    { (s.slot i).run with joinDropped := (s.slot i).run.joinDropped || b } } := by
  cases b with
  | false => simp [joinMarked]
  | true =>
    rw [Bool.or_true]
    exact slot_modSlot_same i _ s

theorem joinMarked_slot_ne {j : SlotId} (hj : j ≠ i) : (joinMarked b i s).slot j = s.slot j := by
  unfold joinMarked
  split
  · exact slot_modSlot_ne _ s (Ne.symm hj)
  · rfl

theorem joinMarked_cls (j : SlotId) : ((joinMarked b i s).slot j).block.cls = (s.slot j).block.cls := by
  by_cases hj : j = i
  · subst hj; rw [joinMarked_slot]
  · rw [joinMarked_slot_ne b i s hj]

end JoinMarked

section JoinAtStart
variable (x : Slot) (st : Step) (d : Dir) (tb : Nat)

theorem joinAtStart_eq_none : joinAtStart x st d tb = .none ↔ st.join = false := by
  unfold joinAtStart
  cases st.join with
  | false => simp
  | true =>
    cases x.nextStep with
    | none => simp
    | some nxt => cases hj : joinTest d st.target nxt.target tb <;> simp [hj]

theorem joinAtStart_eq_pending : joinAtStart x st d tb = .pending
    ↔ st.join = true ∧ ∃ nxt, x.nextStep = some nxt ∧ joinTest d st.target nxt.target tb = true := by
  unfold joinAtStart
  cases st.join with
  | false => simp
  | true =>
    cases x.nextStep with
    | none => simp
    | some nxt => cases hj : joinTest d st.target nxt.target tb <;> simp [hj]

end JoinAtStart

/-- The figures of a planned stroke are those of R99, R100, R102 and R111. -/
theorem planStroke_figures (s : State) (k : Stroke) (x : Slot) (st : Step) (joined : Bool) (p : Nat) :
    StrokeFigures s x st k.axis joined p (planStroke s k x st joined p) where
  axis := rfl
  step := rfl
  started := rfl
  from_ := rfl
  target := rfl
  dist := rfl
  dir := rfl
  ceiling := rfl
  takenOver := rfl
  noJoin := joinAtStart_eq_none x st _ _
  joins := joinAtStart_eq_pending x st _ _
  windows := rfl
  expected := rfl
  limit := rfl

/-- The figures do not read the phase and the timers. -/
theorem StrokeFigures.timed {s : State} {x : Slot} {st : Step} {a : AxisId} {joined : Bool} {p : Nat}
    {k : Stroke} (h : StrokeFigures s x st a joined p k) (phase : Phase) (limitT latchT stallT : Timer)
    (elapsed : Nat) : StrokeFigures s x st a joined p { k with
      phase := phase, limitT := limitT, latchT := latchT, stallT := stallT, elapsed := elapsed } :=
  ⟨h.axis, h.step, h.started, h.from_, h.target, h.dist, h.dir, h.ceiling, h.takenOver, h.noJoin, h.joins,
    h.windows, h.expected, h.limit⟩

/-- The figures are read from the step's index and the one behind it, the supply state and the record in
force. -/
theorem StrokeFigures.congr {s t : State} {x y : Slot} {st : Step} {a : AxisId} {joined : Bool} {p : Nat}
    {k : Stroke} (h : StrokeFigures t y st a joined p k) (hstep : y.step = x.step)
    (hnext : y.nextStep = x.nextStep) (hsupply : t.sup.supply = s.sup.supply) (hcfg : t.cfg = s.cfg) :
    StrokeFigures s x st a joined p k := by
  have haxis (b : AxisId) : t.axisCfg b = s.axisCfg b := by rw [State.axisCfg, State.axisCfg, hcfg]
  exact ⟨h.axis, h.step.trans hstep, h.started, h.from_, h.target, h.dist, h.dir,
    by rw [← hsupply, ← haxis]; exact h.ceiling, h.takenOver, h.noJoin,
    by rw [← hnext, ← haxis]; exact h.joins, by rw [← haxis]; exact h.windows,
    by rw [← haxis]; exact h.expected, by rw [← hcfg]; exact h.limit⟩

/-- The stroke a slot's step starts from the last VALID position (R99). -/
def plannedStroke (k : Stroke) (st : Step) (s : State) : Stroke :=
  planStroke s k (s.slot k.slot) st false (s.lastPos k.axis)

/-- A planned stroke begins in LATCH_WAIT or in DRIVING (R99, R110). -/
def strokeBegun (k : Stroke) (p : Nat) (s : State) : State :=
  if mustUnlatch s k then beginLatchWait k s else beginDriving k p s

theorem strokeStarts_far {k : Stroke} {s : State} {st : Step} (hst : (s.slot k.slot).curStep = some st)
    (hfar : (s.axisCfg k.axis).tb < gapOf st.target (s.lastPos k.axis)) :
    strokeStarts k s = flowBegins (strokeBegun (plannedStroke k st s) (s.lastPos k.axis)
      (joinMarked ((plannedStroke k st s).join == .dropped) k.slot s)) := by
  have hnear := (near_eq_false st.target (s.lastPos k.axis) (s.axisCfg k.axis).tb).mpr hfar
  have hmark : joinMarked ((plannedStroke k st s).join == .dropped) k.slot s
      = if (plannedStroke k st s).join = .dropped then markJoinDropped k.slot s else s := by
    simp only [joinMarked, beq_iff_eq]
  rw [hmark]
  unfold strokeStarts
  simp only [hst, hnear]
  rfl

theorem beginLatchWait_drives (k : Stroke) (s : State) : (beginLatchWait k s).se.drives
    = upd s.se.drives k.axis fun x => { x with solenoid := true } := rfl

theorem beginDriving_drives (k : Stroke) (p : Nat) (s : State) : (beginDriving k p s).se.drives
    = upd s.se.drives k.axis fun _ =>
      { level := driveLevel (s.axisCfg k.axis)
          { k with phase := .driving, limitT := some k.limit, elapsed := 0, latchT := none } p
        valve := valveFor k.dir, solenoid := false } := rfl

theorem strokeBegun_eq (k : Stroke) (p : Nat) (s : State) :
    strokeBegun k p s = { s with se := (strokeBegun k p s).se } := by
  unfold strokeBegun
  split <;> rfl

theorem flowBegins_arb_congr {s t : State} (ha : t.arb = s.arb) :
    (flowBegins t).arb = (flowBegins s).arb := by
  unfold flowBegins
  simp only [ha]
  split
  · rfl
  · exact ha

/-- What the start of a stroke leaves of the slots and the grant, and the stroke it starts. -/
theorem strokeStarts_begins {k : Stroke} {s : State} {st : Step} (hst : (s.slot k.slot).curStep = some st)
    (hfar : (s.axisCfg k.axis).tb < gapOf st.target (s.lastPos k.axis)) :
    ∃ k2, StrokeBegins s k.slot st k.axis k2 (strokeStarts k s)
      ∧ (strokeStarts k s).sm = (joinMarked (k2.join == .dropped) k.slot s).sm
      ∧ (strokeStarts k s).arb = (flowBegins s).arb := by
  rw [strokeStarts_far hst hfar]
  have hfig : StrokeFigures s (s.slot k.slot) st k.axis false (s.lastPos k.axis) (plannedStroke k st s) :=
    planStroke_figures ..
  have hslot : (plannedStroke k st s).slot = k.slot := rfl
  generalize plannedStroke k st s = k2 at hfig hslot ⊢
  have haxis := hfig.axis
  generalize hm : joinMarked (k2.join == .dropped) k.slot s = m
  have hse : m.se = s.se := by rw [← hm, joinMarked_se]
  have hcfg (a : AxisId) : m.axisCfg a = s.axisCfg a := by
    rw [State.axisCfg, State.axisCfg, ← hm, joinMarked_cfg]
  have hmade (a : AxisId) : m.latchMade a = s.latchMade a := by
    simp only [State.latchMade, ← hm, joinMarked_lines]
  have harb : m.arb = s.arb := by rw [← hm, joinMarked_arb]
  have hwait : mustUnlatch m k2 = true ↔ ((s.axisCfg k.axis).latch = true
      ∧ near k2.s (s.axisCfg k.axis).home (s.axisCfg k.axis).tb = true
      ∧ towardHome k2.s k2.t (s.axisCfg k.axis).home (s.axisCfg k.axis).tb = false
      ∧ s.latchMade k.axis = true) := by
    simp only [mustUnlatch, haxis, hcfg, hmade, Bool.and_eq_true, Bool.not_eq_true', and_assoc]
  by_cases hlatch : mustUnlatch m k2 = true
  · refine ⟨{ k2 with phase := .latchWait, latchT := some latchWaitMs }, ?_, ?_, ?_⟩
    · rw [strokeBegun, if_pos hlatch, StrokeBegins, flowBegins_eq, if_pos (hwait.mp hlatch)]
      refine ⟨rfl, hslot, hfig.timed .latchWait k2.limitT (some latchWaitMs) k2.stallT k2.elapsed, rfl,
        rfl, (beginLatchWait_drives k2 m).trans ?_⟩
      rw [haxis, hse]
      rfl
    · rw [flowBegins_eq, strokeBegun_eq, hm]
    · exact flowBegins_arb_congr (by rw [strokeBegun_eq]; exact harb)
  · refine ⟨{ k2 with phase := .driving, limitT := some k2.limit, elapsed := 0, latchT := none }, ?_, ?_, ?_⟩
    · rw [strokeBegun, if_neg hlatch, StrokeBegins, flowBegins_eq, if_neg (mt hwait.mpr hlatch)]
      refine ⟨rfl, hslot, hfig.timed .driving (some k2.limit) none k2.stallT 0, rfl, rfl, rfl, rfl,
        (beginDriving_drives k2 _ m).trans ?_⟩
      rw [haxis, hse, hcfg, ← hfig.from_]
      rfl
    · rw [flowBegins_eq, strokeBegun_eq, hm]
    · exact flowBegins_arb_congr (by rw [strokeBegun_eq]; exact harb)

/-- A stroke's figures are read from the record of the slot, the supply, the record in force, the position
and the latch switches. -/
theorem StrokeBegins.congr {s t u : State} {i : SlotId} {st : Step} {a : AxisId} {k : Stroke}
    (h : StrokeBegins t i st a k u) (hstep : (t.slot i).step = (s.slot i).step)
    (hblock : (t.slot i).block = (s.slot i).block) (hsup : t.sup = s.sup) (hcfg : t.cfg = s.cfg)
    (hsensors : t.sensors = s.sensors) (hlines : t.lines = s.lines)
    (hdrives : t.se.drives = s.se.drives) : StrokeBegins s i st a k u := by
  have haxis (b : AxisId) : t.axisCfg b = s.axisCfg b := by rw [State.axisCfg, State.axisCfg, hcfg]
  have hpos : t.lastPos a = s.lastPos a := by rw [State.lastPos, State.lastPos, hsensors]
  have hmade : t.latchMade a = s.latchMade a := by simp only [State.latchMade, hlines]
  have hnext : (t.slot i).nextStep = (s.slot i).nextStep := by
    rw [Slot.nextStep, Slot.nextStep, hblock, hstep]
  unfold StrokeBegins at h ⊢
  rw [haxis, hpos, hmade, hdrives] at h
  obtain ⟨hk, hi, hfig, hbegun⟩ := h
  exact ⟨hk, hi, hfig.congr hstep hnext (by rw [hsup]) hcfg, hbegun⟩

/-! ## The choice of the grant -/

section Choice
variable {s : State} {c : SeqClass} {i : SlotId}

theorem firstOfClass_eq_none : firstOfClass s c = none
    ↔ ∀ j ∈ s.sm.queue, eligible s j = true → (s.slot j).block.cls ≠ c := by
  unfold firstOfClass
  rw [List.find?_eq_none]
  refine forall₂_congr fun j _ => ?_
  simp only [Bool.and_eq_true, beq_iff_eq, not_and]
  exact ⟨fun h he hc => h hc he, fun h hc he => h he hc⟩

/-- The earliest eligible slot of a Class. -/
theorem firstOfClass_eq_some (h : firstOfClass s c = some i) : eligible s i = true
    ∧ (s.slot i).block.cls = c ∧ ∃ front back, s.sm.queue = front ++ i :: back
      ∧ ∀ j ∈ front, eligible s j = true → (s.slot j).block.cls ≠ c := by
  obtain ⟨hi, front, back, hq, hfront⟩ := List.find?_eq_some_iff_append.mp h
  simp only [Bool.and_eq_true, beq_iff_eq] at hi
  refine ⟨hi.2, hi.1, front, back, hq, fun j hj he hc => ?_⟩
  simpa [he, hc] using hfront j hj

theorem grantChoice_free (h : s.arb.holder = none) : grantChoice s
    = ((firstOfClass s .recovery).or (firstOfClass s .priority)).or (firstOfClass s .routine) := by
  unfold grantChoice
  rw [h]

/-- With the grant free an eligible slot in the queue makes a choice possible. -/
theorem grantChoice_isSome (h : s.arb.holder = none) {j : SlotId} (hj : j ∈ s.sm.queue)
    (he : eligible s j = true) : ∃ i, grantChoice s = some i := by
  rw [← Option.ne_none_iff_exists', grantChoice_free h, Ne, Option.or_eq_none_iff,
    Option.or_eq_none_iff]
  rintro ⟨⟨hrec, hpri⟩, hrou⟩
  cases hc : (s.slot j).block.cls with
  | recovery => exact firstOfClass_eq_none.mp hrec j hj he hc
  | priority => exact firstOfClass_eq_none.mp hpri j hj he hc
  | routine => exact firstOfClass_eq_none.mp hrou j hj he hc

/-- The slot chosen is the first eligible one of its Class, and no higher Class has one (R76). -/
theorem firstOfClass_of_grantChoice (h : grantChoice s = some i) :
    firstOfClass s (s.slot i).block.cls = some i
      ∧ ((s.slot i).block.cls ≠ .recovery → firstOfClass s .recovery = none)
      ∧ ((s.slot i).block.cls = .routine → firstOfClass s .priority = none) := by
  rw [grantChoice_free (holder_of_grantChoice h)] at h
  simp only [Option.or_eq_some_iff, Option.or_eq_none_iff] at h
  rcases h with (hr | ⟨hr, hp⟩) | ⟨⟨hr, hp⟩, ho⟩
  · obtain ⟨-, hc, -⟩ := firstOfClass_eq_some hr
    rw [hc]
    exact ⟨hr, fun h => absurd rfl h, nofun⟩
  · obtain ⟨-, hc, -⟩ := firstOfClass_eq_some hp
    rw [hc]
    exact ⟨hp, fun _ => hr, nofun⟩
  · obtain ⟨-, hc, -⟩ := firstOfClass_eq_some ho
    rw [hc]
    exact ⟨ho, fun _ => hr, fun _ => hp⟩

end Choice

/-! ## The grant -/

/-- The step of a slot ends at zero travel, its join dropped (R98). -/
theorem zeroTravel_eq (k : Stroke) (t : Nat) (s : State) : zeroTravel k t s
    = strokeEnds k.slot (if latchMissing s k.axis t = true then .latch else .arrived)
      (joinMarked ((s.slot k.slot).stepHas (·.join)) k.slot s) := by
  unfold zeroTravel joinMarked
  dsimp only
  split
  · rfl
  · rfl

section Grant
variable {s : State} {i : SlotId} {st : Step} {a : AxisId}

theorem granted_slot (k : Stroke) :
    (granted i k s).slot i = { s.slot i with state := .active, interrupted := false } :=
  slot_modSlot_same i _ (leaveQueue i s)

theorem granted_slot_ne (k : Stroke) {j : SlotId} (hj : j ≠ i) : (granted i k s).slot j = s.slot j :=
  slot_modSlot_ne _ (leaveQueue i s) (Ne.symm hj)

theorem granted_queue (k : Stroke) : (granted i k s).sm.queue = s.sm.queue.filter (· != i) := rfl

theorem grant_far (hst : (s.slot i).curStep = some st) (ha : (s.slot i).curAxis = some a)
    (hfar : (s.axisCfg a).tb < gapOf st.target (s.lastPos a)) :
    grant i s = demandFlow (granted i (freshStroke i (s.slot i).step a) s) := by
  have hnear := (near_eq_false st.target (s.lastPos a) (s.axisCfg a).tb).mpr hfar
  rw [grant_eq hst ha, if_neg (by rw [hnear]; exact nofun)]

theorem grant_far_idle (hst : (s.slot i).curStep = some st) (ha : (s.slot i).curAxis = some a)
    (hfar : (s.axisCfg a).tb < gapOf st.target (s.lastPos a)) (hp : s.arb.pump ≠ .ready) :
    grant i s = { granted i (freshStroke i (s.slot i).step a) s with arb := if s.arb.pump = .off then
        { s.arb with holder := some i, pump := .starting, startT := some s.cfg.startLimit }
      else { s.arb with holder := some i } } := by
  have hpump : (granted i (freshStroke i (s.slot i).step a) s).arb.pump = s.arb.pump := rfl
  rw [grant_far hst ha hfar]
  unfold demandFlow
  rw [hpump]
  cases hs : s.arb.pump with
  | ready => exact absurd hs hp
  | off => rfl
  | starting => rfl
  | flowing => rfl
  | fault => rfl

theorem grant_far_ready (hst : (s.slot i).curStep = some st) (ha : (s.slot i).curAxis = some a)
    (hfar : (s.axisCfg a).tb < gapOf st.target (s.lastPos a)) (hp : s.arb.pump = .ready) :
    ∃ k, StrokeBegins s i st a k (grant i s)
      ∧ (grant i s).sm = (joinMarked (k.join == .dropped) i
          (granted i (freshStroke i (s.slot i).step a) s)).sm
      ∧ (grant i s).arb = { s.arb with holder := some i, pump := .flowing, runOnT := none } := by
  have hpump : (granted i (freshStroke i (s.slot i).step a) s).arb.pump = .ready := hp
  have hstart : demandFlow (granted i (freshStroke i (s.slot i).step a) s)
      = strokeStarts (freshStroke i (s.slot i).step a) (granted i (freshStroke i (s.slot i).step a) s) := by
    unfold demandFlow
    rw [hpump]
    rfl
  rw [grant_far hst ha hfar, hstart]
  have hself := granted_slot (s := s) (i := i) (freshStroke i (s.slot i).step a)
  have hcur : ((granted i (freshStroke i (s.slot i).step a) s).slot
      (freshStroke i (s.slot i).step a).slot).curStep = some st := by
    rw [show (freshStroke i (s.slot i).step a).slot = i from rfl, hself]
    exact hst
  obtain ⟨k, hbegins, hsm, harb⟩ := strokeStarts_begins hcur hfar
  have hfresh : (freshStroke i (s.slot i).step a).slot = i := rfl
  refine ⟨k, hbegins.congr ?_ ?_ rfl rfl rfl rfl rfl, hsm, ?_⟩
  · rw [hfresh, hself]
  · rw [hfresh, hself]
  · rw [harb, flowBegins, if_pos hpump]
    rfl

theorem grant_keeps (i : SlotId) (s : State) : Keeps s (grant i s) := (keeps_slotReaction i).grant s

theorem grant_slot_ne {j : SlotId} (hj : j ≠ i) : (grant i s).slot j = s.slot j :=
  ((othersKept_slotReaction i).grant s j hj).1

/-- The grant of a travel beyond Tb makes the slot the ACTIVE holder (R76). -/
theorem grant_far_holder (hst : (s.slot i).curStep = some st) (ha : (s.slot i).curAxis = some a)
    (hfar : (s.axisCfg a).tb < gapOf st.target (s.lastPos a)) : (grant i s).arb.holder = some i
      ∧ ((grant i s).slot i).state = .active
      ∧ (grant i s).sm.queue = s.sm.queue.filter (· != i) := by
  by_cases hp : s.arb.pump = .ready
  · obtain ⟨k, -, hsm, harb⟩ := grant_far_ready hst ha hfar hp
    refine ⟨by rw [harb], ?_, ?_⟩
    · rw [slot_congr (congrArg SeqManager.slots hsm) i, joinMarked_slot, granted_slot]
    · rw [hsm, joinMarked_queue, granted_queue]
  · rw [grant_far_idle hst ha hfar hp]
    refine ⟨?_, ?_, rfl⟩
    · dsimp only
      split <;> rfl
    · exact congrArg Slot.state (granted_slot (s := s) (i := i) (freshStroke i (s.slot i).step a))

/-- At zero travel the stroke ends at the grant (R98). -/
theorem grant_near (hst : (s.slot i).curStep = some st) (ha : (s.slot i).curAxis = some a)
    (hnear : gapOf st.target (s.lastPos a) ≤ (s.axisCfg a).tb) : grant i s
      = strokeEnds i (if latchMissing s a st.target = true then .latch else .arrived)
        (joinMarked st.join i (granted i (freshStroke i (s.slot i).step a) s)) := by
  have hclose : near st.target (s.lastPos a) (s.axisCfg a).tb = true := by simpa [near] using hnear
  rw [grant_eq hst ha, if_pos hclose]
  rw [zeroTravel_eq]
  have hfresh : (freshStroke i (s.slot i).step a).slot = i := rfl
  have hhas : ((granted i (freshStroke i (s.slot i).step a) s).slot i).stepHas (·.join) = st.join := by
    have hcur : Slot.curStep { s.slot i with state := .active, interrupted := false } = some st := hst
    rw [granted_slot, Slot.stepHas, hcur]
  rw [hfresh, hhas]
  rfl

end Grant

end Sys2Proof.Machine
end

section
/-! PROOFS. The grant in the closing of a command (R71, R76), and the statement on the grant. -/

namespace Sys2Proof.Machine

/-! ## What the derivation of intent leaves alone -/

/-- Only the intent and the warning states differ. -/
def IntentOnly (s t : State) : Prop :=
  t = { s with zt := { s.zt with intent := t.zt.intent }, bu := { s.bu with warns := t.bu.warns } }

theorem IntentOnly.trans {s t u : State} (h : IntentOnly s t) (g : IntentOnly t u) : IntentOnly s u := by
  rw [IntentOnly] at h g ⊢
  rw [g, h]

theorem deriveIntent1_only (s : State) (z : ZoneId) : IntentOnly s (deriveIntent1 s z) := by
  have hstart (u : State) : IntentOnly u (intentStart z u) := by
    unfold intentStart preWarnPassed
    repeat' split
    all_goals rfl
  have hquiet (u : State) : IntentOnly u (quietJudge z u) := by
    unfold quietJudge
    split <;> rfl
  have hset : IntentOnly s { s with zt := { s.zt with
      intent := upd s.zt.intent z fun _ => intentNow s z } } := rfl
  unfold deriveIntent1
  dsimp only
  split
  · exact hset.trans ((hstart _).trans (hquiet _))
  · exact hset.trans (hquiet _)

theorem deriveIntent_only (s : State) : IntentOnly s (deriveIntent s) := by
  unfold deriveIntent
  induction allZones generalizing s with
  | nil => rfl
  | cons z l ih => exact (deriveIntent1_only s z).trans (ih _)

section DeriveIntent
variable (s : State)
@[simp] theorem deriveIntent_sm : (deriveIntent s).sm = s.sm := by rw [deriveIntent_only s]
@[simp] theorem deriveIntent_arb : (deriveIntent s).arb = s.arb := by rw [deriveIntent_only s]
@[simp] theorem deriveIntent_se : (deriveIntent s).se = s.se := by rw [deriveIntent_only s]
@[simp] theorem deriveIntent_cfg : (deriveIntent s).cfg = s.cfg := by rw [deriveIntent_only s]
@[simp] theorem deriveIntent_sensors : (deriveIntent s).sensors = s.sensors := by
  rw [deriveIntent_only s]
@[simp] theorem deriveIntent_veh : (deriveIntent s).veh = s.veh := by rw [deriveIntent_only s]
@[simp] theorem deriveIntent_slot (i : SlotId) : (deriveIntent s).slot i = s.slot i :=
  slot_congr (by rw [deriveIntent_sm]) i
end DeriveIntent

/-! ## Drive-Off is not read by intent and the grant -/

/-- The Drive-Off state stands anew. -/
def withDriveOff (b : Bool) (s : State) : State := { s with zt := { s.zt with driveOff := b } }

theorem deriveIntent1_withDriveOff (b : Bool) (s : State) (z : ZoneId) :
    deriveIntent1 (withDriveOff b s) z = withDriveOff b (deriveIntent1 s z) := by
  have hpassed (u : State) : preWarnPassed z (withDriveOff b u) = withDriveOff b (preWarnPassed z u) := by
    unfold preWarnPassed
    rw [apply_ite (withDriveOff b)]
    rfl
  have hstart (u : State) : intentStart z (withDriveOff b u) = withDriveOff b (intentStart z u) := by
    unfold intentStart
    rw [hpassed, apply_ite (withDriveOff b), apply_ite (withDriveOff b)]
    rfl
  have hquiet (u : State) : quietJudge z (withDriveOff b u) = withDriveOff b (quietJudge z u) := by
    unfold quietJudge
    rw [apply_ite (withDriveOff b)]
    rfl
  have hset (u : State) (v : Vector Bool 5) :
      ({ withDriveOff b u with zt := { (withDriveOff b u).zt with intent := v } } : State)
        = withDriveOff b { u with zt := { u.zt with intent := v } } := rfl
  unfold deriveIntent1
  dsimp only
  rw [hset, hstart, ← apply_ite (withDriveOff b), hquiet]
  rfl

theorem deriveIntent_withDriveOff (b : Bool) (s : State) :
    deriveIntent (withDriveOff b s) = withDriveOff b (deriveIntent s) := by
  unfold deriveIntent
  induction allZones generalizing s with
  | nil => rfl
  | cons z l ih => rw [List.foldl_cons, List.foldl_cons, deriveIntent1_withDriveOff, ih]

theorem grantChoice_withDriveOff (b : Bool) (s : State) :
    grantChoice (withDriveOff b s) = grantChoice s := by
  have heligible (i : SlotId) : eligible (withDriveOff b s) i = eligible s i := rfl
  have hfirst (c : SeqClass) : firstOfClass (withDriveOff b s) c = firstOfClass s c := by
    simp only [firstOfClass, heligible]
    rfl
  unfold grantChoice
  simp only [hfirst]
  rfl

/-! ## The grant at the end of a command -/

/-- A step passes the masks and the zone permit only while the vehicle stands (R60), so that Drive-Off is
not entered. -/
theorem noDriveOffEntry_of_eligible {s : State} {i : SlotId} (h : eligible s i = true) :
    NoDriveOffEntry s := by
  obtain ⟨st, a, -, -, hmotion, -⟩ := (blockReason_eq_none s _).mp ((eligible_iff s i).mp h).2
  obtain ⟨hveh, -⟩ := (permitReason_eq_none s _ st a).mp ((motionReason_eq_none s _ st a).mp hmotion).2
  obtain ⟨v, hv, -, -, hspeed⟩ := (vehicleOk_iff s).mp hveh
  refine .inr ?_
  rw [roadSpeed, hv]
  show v.speed < driveOffSpeed
  rw [hspeed]
  decide

theorem grantLoop_succ (n : Nat) (s : State) : grantLoop (n + 1) s
    = grantOnce (grantLoop n) (deriveIntent s) := rfl

theorem grantBound_eq : grantBound = 639 + 1 := rfl

/-- The beacons, the sounder and the transmitter alone differ: what the closing does after the last derivation
of intent. -/
def ShownOnly (s t : State) : Prop :=
  t = { s with bu := { s.bu with beacons := t.bu.beacons, sounder := t.bu.sounder }, tx := t.tx }

namespace ShownOnly

theorem trans {s t u : State} (h : ShownOnly s t) (g : ShownOnly t u) : ShownOnly s u := by
  rw [ShownOnly] at h g ⊢
  rw [g, h]

theorem showAll (s : State) : ShownOnly s (showAll s) := rfl

theorem sendNext (s : State) : ShownOnly s (sendNext s) := by
  unfold Machine.sendNext
  repeat' split
  all_goals rfl

section
variable {s t : State} (h : ShownOnly s t)
include h
theorem core : CoreKept s t := by rw [h]; exact ⟨rfl, rfl, rfl, rfl, rfl, rfl, rfl⟩
theorem zt : t.zt = s.zt := by rw [h]
theorem warns : t.bu.warns = s.bu.warns := by rw [h]
theorem intentNow (z : ZoneId) : intentNow t z = intentNow s z := by rw [h]; rfl
end

end ShownOnly

theorem IntentOnly.core {s t : State} (h : IntentOnly s t) : CoreKept s t := by
  rw [h]
  exact ⟨rfl, rfl, rfl, rfl, rfl, rfl, rfl⟩

/-- Where Drive-Off is not entered, the closing applies the grant rule and shows the outcome. -/
theorem settle_shown {s : State} (h : NoDriveOffEntry s) :
    ∃ b, ShownOnly (grantLoop grantBound (withDriveOff b s)) (settle s) := by
  obtain ⟨b, hb⟩ := judgeDriveOff_twice h
  have hjudged : judgeDriveOff (judgeDriveOff s) = withDriveOff b s := hb
  refine ⟨b, ?_⟩
  unfold settle
  rw [hjudged]
  generalize grantLoop grantBound (withDriveOff b s) = l
  exact (ShownOnly.showAll l).trans (ShownOnly.sendNext _)

theorem grantLoop_noGrant {s : State} (h : NoGrant s) (n : Nat) : grantLoop n s = deriveIntent s := by
  have hnone : grantChoice (deriveIntent s) = none := by
    refine grantChoice_none ?_
    simpa only [NoGrant, deriveIntent_arb, deriveIntent_sm] using h
  cases n with
  | zero => rfl
  | succ n => rw [grantLoop_succ, grantOnce, hnone]

/-- A choice that stands once intent is derived is granted; intent is then derived once more, as the grant is
held. -/
theorem settle_granted {s : State} {i : SlotId} (hi : grantChoice (deriveIntent s) = some i)
    (hheld : ∀ b, (grant i (withDriveOff b (deriveIntent s))).arb.holder = some i) :
    ∃ b, ShownOnly (deriveIntent (grant i (withDriveOff b (deriveIntent s)))) (settle s) := by
  have hentry : NoDriveOffEntry s := by
    have hderived := noDriveOffEntry_of_eligible (eligible_of_grantChoice hi)
    simp only [NoDriveOffEntry, roadSpeed, deriveIntent_veh] at hderived
    rw [deriveIntent_only s] at hderived
    exact hderived
  obtain ⟨b, hb⟩ := settle_shown hentry
  refine ⟨b, ?_⟩
  have hchoice : grantChoice (withDriveOff b (deriveIntent s)) = some i := by
    rw [grantChoice_withDriveOff, hi]
  have hno : NoGrant (grant i (withDriveOff b (deriveIntent s))) := .inl (by rw [hheld b]; exact nofun)
  rw [grantBound_eq, grantLoop_succ, deriveIntent_withDriveOff, grantOnce, hchoice] at hb
  rw [← grantLoop_noGrant hno 639]
  exact hb

/-- A choice that stands once intent is derived is granted, for a travel beyond Tb. -/
theorem settle_grant_far {s : State} {i : SlotId} {st : Step} {a : AxisId}
    (hi : grantChoice (deriveIntent s) = some i) (hst : (s.slot i).curStep = some st)
    (ha : (s.slot i).curAxis = some a) (hfar : (s.axisCfg a).tb < gapOf st.target (s.lastPos a)) :
    (settle s).arb.holder = some i ∧ ((settle s).slot i).state = .active ∧ i ∉ (settle s).sm.queue := by
  have hgrant (b : Bool) : (grant i (withDriveOff b (deriveIntent s))).arb.holder = some i
      ∧ ((grant i (withDriveOff b (deriveIntent s))).slot i).state = .active
      ∧ (grant i (withDriveOff b (deriveIntent s))).sm.queue = s.sm.queue.filter (· != i) := by
    have hslot := deriveIntent_slot s i
    have hcfg := deriveIntent_cfg s
    have hsensors := deriveIntent_sensors s
    rw [← deriveIntent_sm s]
    generalize deriveIntent s = d at hslot hcfg hsensors ⊢
    have hself : (withDriveOff b d).slot i = s.slot i := hslot
    refine grant_far_holder (st := st) (a := a) (by rw [hself]; exact hst) (by rw [hself]; exact ha) ?_
    rw [State.axisCfg, State.lastPos, show (withDriveOff b d).cfg = s.cfg from hcfg,
      show (withDriveOff b d).sensors = s.sensors from hsensors]
    exact hfar
  obtain ⟨b, hb⟩ := settle_granted hi fun b => (hgrant b).1
  obtain ⟨hsm, harb, -⟩ := (deriveIntent_only _).core.trans hb.core
  obtain ⟨hholder, hactive, hqueue⟩ := hgrant b
  refine ⟨by rw [harb]; exact hholder, ?_, ?_⟩
  · rw [slot_congr (congrArg SeqManager.slots hsm) i]
    exact hactive
  · rw [hsm, hqueue]
    simp

/-- The record of a slot whose step ends at zero travel: ACTIVE, with its join dropped and the axis of its
tenure (R38, R98). -/
def zeroTravelRecord (s : State) (st : Step) (a : AxisId) (x : Slot) : Slot :=
  { x with
    state := .active, interrupted := false
    run := { x.run with
      joinDropped := x.run.joinDropped || st.join
      lastMove := some (a, s.sensors[a].last) } }

/-- The grant at zero travel, with no stroke flowing (R98). -/
theorem grant_zeroTravel {s : State} {i : SlotId} {st : Step} {a : AxisId}
    (hst : (s.slot i).curStep = some st) (ha : (s.slot i).curAxis = some a)
    (hnear : gapOf st.target (s.lastPos a) ≤ (s.axisCfg a).tb) (hp : s.arb.pump ≠ .flowing) :
    (grant i s).arb = { s.arb with holder := none }
      ∧ (grant i s).se = { drives := s.se.drives.set a Drive.rest, stroke := none }
      ∧ (latchMissing s a st.target = false →
        StepCompletes { s with sm := { s.sm with queue := s.sm.queue.filter (· != i) } } i
          (zeroTravelRecord s st a (s.slot i)) st (grant i s))
      ∧ (latchMissing s a st.target = true →
        (grant i s).slot i = endedRecord .latch none (zeroTravelRecord s st a (s.slot i))) := by
  have hgrant := grant_near hst ha hnear
  generalize hg : joinMarked st.join i (granted i (freshStroke i (s.slot i).step a) s) = g at hgrant
  have hholder : g.arb.holder = some i := by rw [← hg, joinMarked_arb]; rfl
  have hstroke : g.se.stroke = some (freshStroke i (s.slot i).step a) := by
    rw [← hg, joinMarked_se]; rfl
  have hpump : g.arb.pump ≠ .flowing := by rw [← hg, joinMarked_arb]; exact hp
  have hself : g.slot i = { s.slot i with
      state := .active, interrupted := false
      run := { (s.slot i).run with joinDropped := (s.slot i).run.joinDropped || st.join } } := by
    rw [← hg, joinMarked_slot, granted_slot]
  have hrecord : withLastMove g (g.slot i) = zeroTravelRecord s st a (s.slot i) := by
    have hcur : (g.slot i).curAxis = some a := by rw [hself]; exact ha
    have hsensors : g.sensors = s.sensors := by rw [← hg, joinMarked_sensors]; rfl
    rw [withLastMove, hcur, hself, hsensors]
    rfl
  have hcurStep : (g.slot i).curStep = some st := by rw [hself]; exact hst
  refine ⟨?_, ?_, fun hl => ?_, fun hl => ?_⟩
  · rw [hgrant, (strokeEnds_grant hholder _).1, rested_arb hholder, dropStroke_arb hpump, ← hg,
      joinMarked_arb]
    rfl
  · rw [hgrant, strokeEnds_se hholder, dropStroke_some hstroke, ← hg, joinMarked_se]
    rfl
  · rw [hgrant, if_neg (by rw [hl]; exact nofun), ← hrecord]
    refine (strokeEnds_arrived_completes hholder hcurStep).congr ?_ ?_ fun j => ?_
    · rw [← hg, joinMarked_eq]
      exact ⟨rfl, rfl⟩
    · rw [← hg, joinMarked_queue]
      rfl
    · rw [← hg, joinMarked_cls]
      by_cases hj : j = i
      · subst hj
        rw [granted_slot]
        rfl
      · rw [granted_slot_ne _ hj]
        rfl
  · rw [hgrant, if_pos hl, strokeEnds_ended (e := .latch) hholder nofun rfl, hrecord]
    rfl

/-- The Classes that the chosen slot stands above (R76). -/
theorem class_of_grantChoice {s : State} {i j : SlotId} (hi : grantChoice s = some i)
    (hj : j ∈ s.sm.queue) (he : eligible s j = true) : (s.slot i).block.cls = .recovery
      ∨ ((s.slot i).block.cls = .priority ∧ (s.slot j).block.cls ≠ .recovery)
      ∨ ((s.slot i).block.cls = .routine ∧ (s.slot j).block.cls = .routine) := by
  obtain ⟨-, hrec, hpri⟩ := firstOfClass_of_grantChoice hi
  have hhigher := fun h => firstOfClass_eq_none.mp (hrec h) j hj he
  have hmiddle := fun h => firstOfClass_eq_none.mp (hpri h) j hj he
  cases hc : (s.slot i).block.cls with
  | recovery => exact .inl rfl
  | priority => exact .inr (.inl ⟨rfl, hhigher (by rw [hc]; exact nofun)⟩)
  | routine =>
    refine .inr (.inr ⟨rfl, ?_⟩)
    have hnr := hhigher (by rw [hc]; exact nofun)
    have hnp := hmiddle hc
    cases hcj : (s.slot j).block.cls with
    | recovery => exact absurd hcj hnr
    | priority => exact absurd hcj hnp
    | routine => rfl

/-- Settles O28: the choice (`firstOfClass_of_grantChoice`), the grant beyond Tb (`grant_far`) and at zero
travel (`grant_zeroTravel`). -/
theorem grantGoesToTheHighestClassEarliest : Obligations.GrantGoesToTheHighestClassEarliest := by
  intro s
  refine ⟨fun hh ⟨j, hj, he⟩ => grantChoice_isSome hh hj he,
    fun i st a hi hst ha hfar => settle_grant_far hi hst ha hfar, fun i hi => ?_⟩
  obtain ⟨hfirst, -, -⟩ := firstOfClass_of_grantChoice hi
  obtain ⟨helig, -, front, back, hqueue, hfront⟩ := firstOfClass_eq_some hfirst
  refine ⟨holder_of_grantChoice hi, helig, front, back, hqueue, hfront,
    fun j hj he => class_of_grantChoice hi hj he, fun st a hst ha hfar => ⟨grant_keeps i s,
      fun j hj => grant_slot_ne hj, (grant_far_holder hst ha hfar).2.2, fun hp => ?_, fun hp => ?_,
      fun st a x hst ha hnear hp hx => ?_⟩⟩
  · rw [grant_far_idle hst ha hfar hp]
    exact ⟨granted_slot (freshStroke i (s.slot i).step a), rfl, rfl⟩
  · obtain ⟨k, hbegins, hsm, harb⟩ := grant_far_ready hst ha hfar hp
    refine ⟨⟨k, hbegins, ?_⟩, harb⟩
    rw [slot_congr (congrArg SeqManager.slots hsm) i, joinMarked_slot, granted_slot]
  · subst hx
    exact ⟨grant_keeps i s, fun j hj => grant_slot_ne hj, grant_zeroTravel hst ha hnear hp⟩

end Sys2Proof.Machine
end

section
/-! PROOFS. Hold and Release Hold (R79 to R82), and the pump-pressure samples (R86, R88, R106). -/

namespace Sys2Proof.Machine

/-- A controlled stop that has begun stands through the closing of the command: no grant can follow, and
the holder is not ACTIVE. -/
theorem Settled.stopBegun {o : StopOutcome} {k : Stroke} {s t : State}
    (h : Settled (stopBegun o k s) t) (hh : s.arb.holder = some k.slot) :
    t.slot k.slot = fixOutcome o (s.slot k.slot) ∧ t.arb = s.arb
      ∧ t.se.stroke = some (stoppingStroke s k) := by
  obtain ⟨hsm, harb, hse, -⟩ := h.steady (stopBegun_holder_stopping o k s hh)
  refine ⟨?_, harb, by rw [hse]; rfl⟩
  rw [slot_congr (congrArg SeqManager.slots hsm) k.slot, stopBegun_slot]

/-! ## Hold -/

/-- The hold level stands anew after a request, and the request has been answered OK. -/
def holdAnswered (src : Sender) (kind : Byte) (level : HoldLevel) (r : Result) (s : State) : State :=
  answer (senderStation src) kind .ok r { requestTaken src s with arb := { s.arb with hold := level } }

/-- Every station is told of the new level (R80, R81). -/
def holdTold (src : Sender) (kind : Byte) (level : HoldLevel) (r : Result) (s : State) : State :=
  placeAll (.alert (.hold level (senderStation src))) (holdAnswered src kind level r s)

section HoldTold
variable (src : Sender) (kind : Byte) (level : HoldLevel) (r : Result) (s : State)

theorem holdTold_keeps : Keeps { requestTaken src s with arb := { s.arb with hold := level } }
    (holdTold src kind level r s) := (answer_keeps _ _ _ _ _).trans (placeAll_keeps _ _)

theorem holdTold_arb : (holdTold src kind level r s).arb = { s.arb with hold := level } := by
  rw [holdTold, placeAll_arb, holdAnswered, answer_arb]

theorem holdTold_se : (holdTold src kind level r s).se = s.se := by
  rw [holdTold, placeAll_se, holdAnswered, answer_se]
  exact requestTaken_se src s

theorem holdTold_cfg : (holdTold src kind level r s).cfg = s.cfg := by
  rw [holdTold, placeAll_cfg, holdAnswered, answer_cfg]
  exact requestTaken_cfg src s

theorem holdTold_slot (i : SlotId) : (holdTold src kind level r s).slot i = s.slot i := by
  rw [holdTold, placeAll_slot, holdAnswered, answer_slot]
  exact requestTaken_slot src s i

end HoldTold

/-- A rise of the hold level touches at most the ACTIVE holder (R82). -/
theorem interruptMasked_inert (s : State) : InertKept s (interruptMasked s) := by
  unfold interruptMasked
  split
  · exact .of_sm rfl
  · split
    · exact controlledStop_inert _ s
    · exact .of_sm rfl

theorem interruptMasked_keeps (s : State) : Keeps s (interruptMasked s) := by
  unfold interruptMasked
  split
  · exact .refl s
  · split
    · exact controlledStop_rel keeps_slotReaction _ s
    · exact .refl s

/-- A level FULL interrupts the ACTIVE holder, whatever its Class (R79, R82). -/
theorem interruptMasked_full {s : State} {k : Stroke} (hfull : s.arb.hold = .full)
    (hh : s.arb.holder = some k.slot) (hk : s.se.stroke = some k)
    (ha : (s.slot k.slot).state = .active) (hts : (s.axisCfg k.axis).ts ≠ 0) :
    interruptMasked s = stopBegun .interruption k s := by
  have hmask : holdMasks s (s.slot k.slot) = true := by unfold holdMasks; rw [hfull]
  unfold interruptMasked
  rw [hh]
  dsimp only
  rw [if_pos hmask, controlledStop_active _ hh hk ha, if_neg hts]

theorem setHold_requestTaken (src : Sender) (level : HoldLevel) (s : State) :
    setHold level (requestTaken src s)
      = { requestTaken src s with arb := { s.arb with hold := level } } := by
  rw [setHold, requestTaken_arb]

/-- The level in force set again. -/
theorem setHold_same (src : Sender) {level : HoldLevel} {s : State} (h : s.arb.hold = level) :
    setHold level (requestTaken src s) = requestTaken src s := by
  rw [← h, ← requestTaken_arb src s]
  rfl

section Requests
variable {src : Sender} {s : State} {code : Byte}

theorem exec_hold_risen (hr : Reaches src s) {asked level : HoldLevel} (hcode : holdCode code = some asked)
    (hlevel : raisedHold asked s.arb.hold = level) (hne : level ≠ s.arb.hold) :
    exec (.hold src code) s
      = .next (linkClosed src (settle (interruptMasked (holdTold src 11 level (.hold level) s)))) := by
  rw [exec_hold, viaLink_reaches hr]
  unfold takeHold
  rw [hcode]
  dsimp only
  rw [requestTaken_arb, hlevel, if_neg hne, setHold_requestTaken]
  rfl

theorem exec_hold_unchanged (hr : Reaches src s) {asked : HoldLevel} (hcode : holdCode code = some asked)
    (hlevel : raisedHold asked s.arb.hold = s.arb.hold) :
    exec (.hold src code) s = .next (answered src 11 .ok (.hold s.arb.hold) s) := by
  rw [exec_hold, viaLink_answered hr (f := takeHold code) (k := 11) (c := .ok) (r := .hold s.arb.hold)]
  unfold takeHold
  rw [hcode]
  dsimp only
  rw [requestTaken_arb, hlevel, if_pos rfl, setHold_same src rfl]
  rfl

theorem trusted_requestTaken (st : StationId) : trusted (requestTaken src s) st = trusted s st := by
  simp [trusted]

end Requests

/-- Settles O30: the levels by `raisedHold`, the interruption by `interruptMasked_full`. -/
theorem holdRaisesAndReleaseHoldClears : Obligations.HoldRaisesAndReleaseHoldClears := by
  intro src code s hr
  refine ⟨fun h1 h2 => ?_, fun level hrise => ?_, fun hsame => ?_, fun htrust => ⟨fun hne => ?_, fun hnone => ?_⟩,
    fun hcrew hno => ?_⟩
  · rw [exec_hold, viaLink_answered hr (f := takeHold code) (k := 11) (c := .badLevel) (r := .none)]
    have hcode : holdCode code = none := (if_neg h1).trans (if_neg h2)
    unfold takeHold
    rw [hcode]
    rfl
  · have hexec : exec (.hold src code) s
        = .next (linkClosed src (settle (interruptMasked (holdTold src 11 level (.hold level) s)))) := by
      rcases hrise with ⟨rfl, hne, rfl⟩ | ⟨rfl, hnone, rfl⟩
      · exact exec_hold_risen hr (asked := .full) rfl rfl (Ne.symm hne)
      · exact exec_hold_risen hr (asked := .partly) rfl (by rw [hnone]; rfl) (by rw [hnone]; exact nofun)
    have hsettled := settled_linkClosed src (interruptMasked (holdTold src 11 level (.hold level) s))
    have hslot := holdTold_slot src 11 level (.hold level) s
    refine ⟨_, _, hexec, rfl, hsettled, ((holdTold_keeps src 11 level (.hold level) s).trans
      (interruptMasked_keeps _)).trans hsettled.toKeeps, fun j hj => ?_,
      fun i k hfull hh ha hk hik hts => ?_⟩
    · have hinert := interruptMasked_inert (holdTold src 11 level (.hold level) s) j
        (by rw [hslot]; exact hj)
      rw [(hsettled.inert j (by rw [hinert.1, hslot]; exact hj)).1, hinert.1, hslot]
    · subst hik
      have harb := holdTold_arb src 11 level (.hold level) s
      have hcfg := holdTold_cfg src 11 level (.hold level) s
      have hse := holdTold_se src 11 level (.hold level) s
      generalize holdTold src 11 level (.hold level) s = w at hsettled harb hcfg hse hslot ⊢
      have hholder : w.arb.holder = some k.slot := by rw [harb]; exact hh
      have hbegun := interruptMasked_full (s := w) (by rw [harb]; exact hfull) hholder
        (by rw [hse]; exact hk) (by rw [hslot]; exact ha) (by rw [State.axisCfg, hcfg]; exact hts)
      rw [hbegun] at hsettled ⊢
      obtain ⟨hstopping, hgrant, -⟩ := hsettled.stopBegun hholder
      exact ⟨by rw [hstopping, hslot]; rfl, by rw [hgrant]; exact hholder⟩
  · rcases hsame with ⟨rfl, hne⟩ | ⟨rfl, hfull⟩
    · refine exec_hold_unchanged hr (asked := .partly) rfl ?_
      cases hl : s.arb.hold with
      | none => exact absurd hl hne
      | partly => rfl
      | full => rfl
    · exact exec_hold_unchanged hr (asked := .full) rfl (by rw [hfull]; rfl)
  · have htrusted : trusted s (senderStation src) = true := by
      rcases htrust with rfl | ⟨hf, hl⟩
      · rfl
      · simp [trusted, hf, hl]
    have hexec : exec (.releaseHold src) s
        = .next (linkClosed src (settle (holdTold src 12 .none .none s))) := by
      rw [exec_releaseHold, viaLink_reaches hr, takeReleaseHold, trusted_requestTaken, if_pos htrusted]
      dsimp only
      rw [requestTaken_arb, if_neg hne, setHold_requestTaken]
      rfl
    have hsettled := settled_linkClosed src (holdTold src 12 .none .none s)
    refine ⟨_, _, hexec, rfl, hsettled, (holdTold_keeps src 12 .none .none s).trans hsettled.toKeeps,
      fun j hj => ?_⟩
    rw [(hsettled.inert j (by rw [holdTold_slot]; exact hj)).1, holdTold_slot]
  · have htrusted : trusted s (senderStation src) = true := by
      rcases htrust with rfl | ⟨hf, hl⟩
      · rfl
      · simp [trusted, hf, hl]
    rw [exec_releaseHold, viaLink_answered hr (f := takeReleaseHold) (k := 12) (c := .ok) (r := .none)]
    rw [takeReleaseHold, trusted_requestTaken, if_pos htrusted]
    dsimp only
    rw [requestTaken_arb, if_pos hnone, setHold_same src hnone]
    rfl
  · have htrusted : ¬ trusted s (senderStation src) = true := by
      cases src with
      | cab => exact absurd rfl hcrew
      | crew c n =>
        have hstation : stationOf c ≠ 0 := stationOf_ne_cab c
        rcases hno with hf | hl
        · simp [trusted, senderStation, hstation, hf]
        · have hlevel : levelOf s.cfg (stationOf c) ≠ 1 := hl
          simp [trusted, senderStation, hstation, hlevel]
    rw [exec_releaseHold,
      viaLink_answered hr (f := takeReleaseHold) (k := 12) (c := .notPermitted) (r := .none)]
    rw [takeReleaseHold, trusted_requestTaken, if_neg htrusted]
    rfl

/-! ## Pressure samples -/

/-- The state in which a STARTING pump is found ready (R86). -/
def pumpFoundReady (s : State) : State := { s with arb := { s.arb with pump := .ready, startT := none } }

theorem pumpFoundReady_keeps (s : State) : Keeps s (pumpFoundReady s) := by
  constructor <;> intros <;> rfl

theorem exec_pressure_ready {bar : Nat} {s : State} (hp : s.arb.pump = .starting)
    (hbar : s.cfg.pready ≤ bar) : exec (.pumpPressureSample bar) s
      = .next (settle (if (pumpReady (pumpFoundReady s)).arb.pump = .ready
          ∧ (pumpReady (pumpFoundReady s)).arb.runOnT = none
        then startRunOn (pumpReady (pumpFoundReady s)) else pumpReady (pumpFoundReady s))) := by
  rw [exec_pumpPressureSample]
  unfold takePressure
  rw [hp]
  dsimp only
  rw [pressureStarting, if_pos hbar]
  rfl

theorem exec_pressure_flowing {bar : Nat} {s : State} (hp : s.arb.pump = .flowing) :
    exec (.pumpPressureSample bar) s = .next (pressureFlowing bar (pressureDriving bar s)) := by
  rw [exec_pumpPressureSample]
  unfold takePressure
  rw [hp]

/-- A sample in FLOWING changes the pressure-loss timer alone (R88). -/
theorem pressureFlowing_eq (bar : Nat) (s : State) : pressureFlowing bar s = { s with arb := { s.arb with
    lossT := if bar < s.cfg.plost then some (s.arb.lossT.getD 500) else none } } := by
  unfold pressureFlowing
  split
  · cases hl : s.arb.lossT with
    | none => rfl
    | some t =>
      rw [Option.isSome_some, if_pos rfl, Option.getD_some, ← hl]
  · rfl

/-- A stroke after a pressure sample (R106): its stall timer runs at or above Pstall. -/
def stallJudged (bar : Nat) (s : State) (k : Stroke) : Stroke :=
  if k.phase = .driving then
    if (s.axisCfg k.axis).pstall ≤ bar then
      { k with
        stallT := some (k.stallT.getD 300)
        stallRef := if k.stallT.isSome then k.stallRef else s.lastPos k.axis }
    else { k with stallT := none }
  else k

theorem pressureDriving_eq (bar : Nat) (s : State) : pressureDriving bar s
    = { s with se := { s.se with stroke := s.se.stroke.map (stallJudged bar s) } } := by
  unfold pressureDriving
  cases hk : s.se.stroke with
  | none =>
    have hself : s = { s with se := { s.se with stroke := none } } := by rw [← hk]
    exact hself
  | some k =>
    rw [Option.map_some]
    dsimp only
    unfold stallJudged
    split
    · split
      · cases ht : k.stallT with
        | none => rfl
        | some t =>
          rw [Option.isSome_some, if_pos rfl, if_pos rfl, Option.getD_some, ← ht, ← hk]
      · rfl
    · have hself : s = { s with se := { s.se with stroke := some k } } := by rw [← hk]
      exact hself

/-- Settles O31: by the pump state the sample finds; a waiting stroke starts by `strokeStarts_begins`. -/
theorem pressureSampleIsJudgedByThePumpState : Obligations.PressureSampleIsJudgedByThePumpState := by
  intro bar s
  refine ⟨fun hp => ?_, fun hp hbar => ?_, fun hp hbar hk hh hq hrun hne => ?_,
    fun i k st hp hbar hk hphase hi hh hst hfar => ?_, fun hp => ?_⟩
  · rw [exec_pumpPressureSample]
    unfold takePressure
    rcases hp with hp | hp | hp <;> rw [hp]
  · rw [exec_pumpPressureSample]
    unfold takePressure
    rw [hp]
    dsimp only
    rw [pressureStarting, if_neg (Nat.not_le.mpr hbar)]
  · have hready : pumpReady (pumpFoundReady s) = pumpFoundReady s := by
      have hnone : (pumpFoundReady s).se.stroke = none := hk
      unfold pumpReady
      rw [hnone]
    have hrunOn : startRunOn (pumpFoundReady s) = { s with arb :=
        { s.arb with pump := .ready, startT := none, runOnT := some (runOnInForce s) } } :=
      if_neg hne
    have hexec := exec_pressure_ready hp hbar
    rw [hready, if_pos ⟨rfl, hrun⟩, hrunOn] at hexec
    have hkeeps : Keeps s { s with arb :=
        { s.arb with pump := .ready, startT := none, runOnT := some (runOnInForce s) } } := by
      constructor <;> intros <;> rfl
    generalize hu : ({ s with arb := { s.arb with
      pump := .ready, startT := none, runOnT := some (runOnInForce s) } } : State) = u at hexec hkeeps
    have harb : u.arb
        = { s.arb with pump := .ready, startT := none, runOnT := some (runOnInForce s) } := by rw [← hu]
    have hsm : u.sm = s.sm := by rw [← hu]
    have hse : u.se = s.se := by rw [← hu]
    have hsettled := settle_settled u
    obtain ⟨hsm', harb', hse', -⟩ := hsettled.steady (.inl ⟨by rw [harb]; exact hh, by rw [hsm, hq]⟩)
    exact ⟨_, hexec, harb'.trans harb, hsm'.trans hsm, hse'.trans hse, hkeeps.trans hsettled.toKeeps⟩
  · subst hi
    have hready : pumpReady (pumpFoundReady s) = strokeStarts k (pumpFoundReady s) := by
      have hsome : (pumpFoundReady s).se.stroke = some k := hk
      unfold pumpReady
      rw [hsome]
      exact if_pos hphase
    obtain ⟨k2, hbegins, hsm, harb⟩ := strokeStarts_begins (k := k) (s := pumpFoundReady s) (st := st)
      hst hfar
    have hflow : (flowBegins (pumpFoundReady s)).arb
        = { s.arb with pump := .flowing, startT := none, runOnT := none } := rfl
    rw [hflow] at harb
    have hexec := exec_pressure_ready hp hbar
    rw [hready, if_neg (by rw [harb]; exact fun h => absurd h.1 nofun)] at hexec
    have hkeeps : Keeps s (strokeStarts k (pumpFoundReady s)) :=
      (pumpFoundReady_keeps s).trans ((keeps_slotReaction k.slot).strokeStarts rfl _)
    refine ⟨_, _, hexec, settle_settled _, hkeeps, ⟨k2, hbegins.congr rfl rfl rfl rfl rfl rfl rfl, ?_⟩,
      harb, ?_, fun j hj => ?_⟩
    · rw [slot_congr (congrArg SeqManager.slots hsm) k.slot, joinMarked_slot]
      rfl
    · rw [hsm, joinMarked_queue]
      rfl
    · rw [slot_congr (congrArg SeqManager.slots hsm) j, joinMarked_slot_ne _ _ _ hj]
      rfl
  · refine ⟨_, exec_pressure_flowing hp, ?_, ?_, ?_, ?_⟩
    · rw [pressureFlowing_eq, pressureDriving_eq]
    · rw [pressureFlowing_eq, pressureDriving_eq]
    · rw [pressureFlowing_eq, pressureDriving_eq]
    · rw [pressureFlowing_eq, pressureDriving_eq]
      rfl

end Sys2Proof.Machine
end

section
/-! PROOFS. Position samples (R93 to R95, R105, R111, R114) and latch switches (R51, R110). -/

namespace Sys2Proof.Machine

/-! ## The sensor after a sample -/

section Sampled
variable {parked flagged : Bool} {p : Nat} {x : Sensor}

theorem sampled_unsynced_flagged (h : x.state = .unsynced) :
    sampled parked true p x = { x with cand := none } := by simp only [sampled, h]; rfl

/-- A first sample, or one that does not agree with the candidate (R93). -/
theorem sampled_candidate (h : x.state = .unsynced)
    (hc : ∀ c, x.cand = some c → p + 8 < c ∨ c + 8 < p) :
    sampled parked false p x = { x with cand := some p } := by
  simp only [sampled, h]
  cases hx : x.cand with
  | none => rfl
  | some c =>
    have hfar : near c p syncWindow = false := (near_eq_false c p 8).mpr (by
      unfold gapOf
      have := hc c hx
      omega)
    simp only [hfar]
    rfl

theorem sampled_synced (h : x.state = .unsynced) {c : Nat} (hc : x.cand = some c) (h1 : p ≤ c + 8)
    (h2 : c ≤ p + 8) : sampled parked false p x
      = { state := .valid, last := some p, cand := none, watchdog := watchdogStart parked } := by
  have hnear : near c p syncWindow = true := by
    rw [near, decide_eq_true_eq, gapOf, syncWindow]
    omega
  simp only [sampled, h, hc, hnear]
  rfl

theorem sampled_followed (h : x.state = .valid) {q : Nat} (hq : x.last = some q) (h1 : p ≤ q + 256)
    (h2 : q ≤ p + 256) : sampled parked false p x
      = { x with last := some p, watchdog := watchdogStart parked } := by
  have hnear : near q p jumpLimit = true := by
    rw [near, decide_eq_true_eq, gapOf, jumpLimit]
    omega
  simp only [sampled, h, hq, Option.getD_some, hnear]
  rfl

theorem sampled_jumped (h : x.state = .valid) {q : Nat} (hq : x.last = some q)
    (hj : flagged = true ∨ q + 256 < p ∨ p + 256 < q) :
    sampled parked flagged p x = { x with state := .fault, watchdog := none } := by
  have hjump : (flagged || !(near q p jumpLimit)) = true := by
    rcases hj with rfl | hj
    · rfl
    · have hfar : near q p jumpLimit = false := (near_eq_false q p 256).mpr (by
        unfold gapOf
        omega)
      rw [hfar]
      exact Bool.or_true _
  simp only [sampled, h, hq, Option.getD_some, hjump]
  rfl

theorem sampled_fault_flagged (h : x.state = .fault) : sampled parked true p x = x := by
  simp only [sampled, h]; rfl

theorem sampled_fault_anew (h : x.state = .fault) :
    sampled parked false p x = { x with state := .unsynced, cand := some p } := by
  simp only [sampled, h]; rfl

end Sampled

/-! ## The stroke after a sample -/

theorem overTest_iff (c : AxisCfg) (k : Stroke) (p : Nat) : overTest c k p = true ↔ OverAt c k p := by
  simp [overTest, OverAt, or_assoc]

theorem arrivalTest_iff (c : AxisCfg) (k : Stroke) (p : Nat) :
    arrivalTest c k p = true ↔ ArrivedAt c k p := by
  simp [arrivalTest, ArrivedAt]

/-- The distance to go from `p` toward a target. -/
theorem toGo_dirOf (t p : Nat) : toGo (dirOf p t) t p = (gapOf t p : Int) := by
  unfold dirOf gapOf
  split
  · show (t : Int) - p = _
    omega
  · show (p : Int) - t = _
    omega

/-- A taken join's slot has its next step current (R111). -/
def joinAdvanced (i : SlotId) (s : State) : State :=
  modSlot i (fun x => { x with step := x.step + 1, interrupted := false }) s

theorem takeJoin_eq {k : Stroke} {s : State} {nxt : Step} (p : Nat)
    (hn : (s.slot k.slot).nextStep = some nxt) {t : State} (k2 : Stroke)
    (ht : toldStarted k.slot ((joinAdvanced k.slot s).slot k.slot) nxt (joinAdvanced k.slot s) = t)
    (hk2 : planStroke t k (t.slot k.slot) nxt true p = k2) :
    takeJoin k p s
      = beginDriving { k2 with stallT := none } p (joinMarked (k2.join == .dropped) k.slot t) := by
  have hcur : ((joinAdvanced k.slot s).slot k.slot).curStep = some nxt := by
    rw [joinAdvanced, slot_modSlot_same]
    exact hn
  have hslot : k2.slot = k.slot := by rw [← hk2]; rfl
  have hmark : joinMarked (k2.join == .dropped) k.slot t
      = if k2.join = .dropped then markJoinDropped k2.slot t else t := by
    simp only [joinMarked, beq_iff_eq, hslot]
  rw [hmark, ← hk2, ← ht]
  unfold takeJoin
  show (match ((joinAdvanced k.slot s).slot k.slot).curStep with
    | none => _
    | some st => _) = _
  rw [hcur]
  rfl

/-- The state in which a taken join's stroke drives from `p`, with the grant and the flow kept (R111). -/
structure JoinTaken (s : State) (k : Stroke) (nxt : Step) (p : Nat) (k2 : Stroke) (u : State) : Prop where
  stroke : u.se.stroke = some k2
  slot : k2.slot = k.slot
  figures : StrokeFigures s { s.slot k.slot with step := (s.slot k.slot).step + 1 } nxt k.axis true p k2
  phase : k2.phase = .driving
  limitT : k2.limitT = some k2.limit
  stallT : k2.stallT = none
  drives : u.se.drives = s.se.drives.set k.axis
    { level := driveLevel (s.axisCfg k.axis) k2 p, valve := valveFor k2.dir, solenoid := false }
  arb : u.arb = s.arb
  queue : u.sm.queue = s.sm.queue
  others : ∀ j, j ≠ k.slot → u.slot j = s.slot j
  self : u.slot k.slot = { s.slot k.slot with
    step := (s.slot k.slot).step + 1, interrupted := false
    run := { (s.slot k.slot).run with
      joinDropped := (s.slot k.slot).run.joinDropped || k2.join == .dropped } }

theorem takeJoin_taken {k : Stroke} {s : State} {nxt : Step} (p : Nat)
    (hn : (s.slot k.slot).nextStep = some nxt) : ∃ k2, JoinTaken s k nxt p k2 (takeJoin k p s) := by
  generalize ht : toldStarted k.slot ((joinAdvanced k.slot s).slot k.slot) nxt (joinAdvanced k.slot s) = t
  have hkeeps : Keeps s t := ht ▸ ((keeps_slotReaction k.slot).slot _ s).trans (toldStarted_keeps _ _ _ _)
  have hsm : t.sm = (joinAdvanced k.slot s).sm := by rw [← ht, toldStarted_sm]
  have harb : t.arb = s.arb := by rw [← ht, toldStarted_arb]; rfl
  have hse : t.se = s.se := by rw [← ht, toldStarted_se]; rfl
  have haxis (a : AxisId) : t.axisCfg a = s.axisCfg a := by
    rw [State.axisCfg, State.axisCfg, hkeeps.cfg]
  have hself : t.slot k.slot = { s.slot k.slot with
      step := (s.slot k.slot).step + 1, interrupted := false } := by
    rw [slot_congr (congrArg SeqManager.slots hsm) k.slot]
    exact slot_modSlot_same k.slot _ s
  have hother (j : SlotId) (hj : j ≠ k.slot) : t.slot j = s.slot j := by
    rw [slot_congr (congrArg SeqManager.slots hsm) j]
    exact slot_modSlot_ne _ s (Ne.symm hj)
  have hfig := planStroke_figures t k (t.slot k.slot) nxt true p
  have hslot : (planStroke t k (t.slot k.slot) nxt true p).slot = k.slot := rfl
  generalize hk2 : planStroke t k (t.slot k.slot) nxt true p = k2 at hfig hslot
  have hax := hfig.axis
  have hfig' : StrokeFigures s { s.slot k.slot with step := (s.slot k.slot).step + 1 } nxt k.axis true p
      { k2 with phase := .driving, limitT := some k2.limit, latchT := none, stallT := none, elapsed := 0 } :=
    (hfig.timed _ _ _ _ _).congr (by rw [hself]) (by rw [hself]; rfl) hkeeps.supply hkeeps.cfg
  rw [takeJoin_eq p hn k2 ht hk2]
  refine ⟨_, rfl, hslot, hfig', rfl, rfl, rfl, (beginDriving_drives _ p _).trans ?_, ?_, ?_, fun j hj => ?_, ?_⟩
  · rw [joinMarked_se, hse, hax, State.axisCfg, joinMarked_cfg, hkeeps.cfg]
    rfl
  · exact (joinMarked_arb _ _ t).trans harb
  · exact (joinMarked_queue _ _ t).trans (by rw [hsm]; rfl)
  · exact (joinMarked_slot_ne _ _ t hj).trans (hother j hj)
  · exact (joinMarked_slot _ _ t).trans (by rw [hself])

/-- A joined stroke beyond Tb is not at its target yet, so that one join is taken (R111). -/
theorem arrive_joined {n p : Nat} {k : Stroke} {s : State} {nxt : Step} (hj : k.join = .pending)
    (hn : (s.slot k.slot).nextStep = some nxt)
    (hfar : (s.axisCfg k.axis).tb < gapOf nxt.target p) : ∃ k2, JoinTaken s k nxt p k2
      (arrive (n + 1) p k s) := by
  obtain ⟨k2, htaken⟩ := takeJoin_taken p hn
  have hcfg : (takeJoin k p s).cfg = s.cfg := ((keeps_slotReaction k.slot).takeJoin rfl p s).cfg
  have htest : ¬ arrivalTest ((takeJoin k p s).axisCfg k2.axis) k2 p = true := by
    rw [arrivalTest_iff, State.axisCfg, hcfg, htaken.figures.axis]
    rintro ⟨-, hle⟩
    have hgo : toGo k2.dir k2.t p = (gapOf nxt.target p : Int) := by
      rw [htaken.figures.dir, htaken.figures.target]
      exact toGo_dirOf nxt.target p
    have hfar' : (s.cfg.axes[k.axis]).tb < gapOf nxt.target p := hfar
    omega
  have harrive : arrive (n + 1) p k s = takeJoin k p s := by
    unfold arrive
    rw [if_pos hj]
    dsimp only
    rw [htaken.stroke]
    exact if_neg htest
  exact ⟨k2, harrive ▸ htaken⟩

/-- Without a pending join the stroke settles (R105). -/
theorem arrive_settling {n p : Nat} {k : Stroke} {s : State} (hj : k.join ≠ .pending)
    (hts : (s.axisCfg k.axis).settle ≠ 0) : arrive (n + 1) p k s
      = setStroke (some { k with
          phase := .settling, limitT := none, stallT := none
          settleT := some (s.axisCfg k.axis).settle })
        (flowEnds (modDrive k.axis (fun x => { x with level := 0, valve := .neutral }) s)) := by
  unfold arrive
  rw [if_neg hj]
  exact if_neg hts

/-- The stroke goes on: its level is set, and its stall timer stops with a motion of 4 counts (R105,
R106). -/
theorem driveSample_onward {k : Stroke} {p : Nat} {s : State} (ho : ¬ OverAt (s.axisCfg k.axis) k p)
    (ha : ¬ ArrivedAt (s.axisCfg k.axis) k p) : driveSample k p s
      = setStroke (some { k with
          stallT := if k.stallT.isSome ∧ 4 ≤ gapOf p k.stallRef then none else k.stallT })
        (modDrive k.axis (fun x => { x with level := driveLevel (s.axisCfg k.axis) k p }) s) := by
  have hstop : (k.stallT.isSome && decide (stallMotion ≤ gapOf p k.stallRef)) = true
      ↔ (k.stallT.isSome ∧ 4 ≤ gapOf p k.stallRef) := by
    rw [Bool.and_eq_true, decide_eq_true_eq]
    rfl
  unfold driveSample
  dsimp only
  rw [if_neg (mt (overTest_iff _ _ _).mp ho), if_neg (mt (arrivalTest_iff _ _ _).mp ha)]
  by_cases h : k.stallT.isSome ∧ 4 ≤ gapOf p k.stallRef
  · rw [if_pos (hstop.mpr h), if_pos h]
    rfl
  · rw [if_neg (mt hstop.mp h), if_neg h]

theorem arrive_keeps (n p : Nat) (k : Stroke) (s : State) : Keeps s (arrive n p k s) := by
  induction n generalizing k s with
  | zero => exact .refl s
  | succ n ih =>
    unfold arrive
    split
    · have hjoin := (keeps_slotReaction k.slot).takeJoin rfl p s
      dsimp only
      split
      · split
        · exact hjoin.trans (ih _ _)
        · exact hjoin
      · exact hjoin
    · exact (keeps_slotReaction k.slot).beginSettling rfl s

theorem driveSample_keeps (k : Stroke) (p : Nat) (s : State) : Keeps s (driveSample k p s) := by
  unfold driveSample
  dsimp only
  split
  · exact strokeEnds_keeps _ _ s
  · split
    · exact arrive_keeps joinBound p k s
    · constructor <;> intros <;> rfl

theorem strokeSample_keeps (a : AxisId) (p : Nat) (s : State) : Keeps s (strokeSample a p s) := by
  unfold strokeSample
  split
  · exact .refl s
  · split
    · split
      case h_1 => exact driveSample_keeps _ p s
      case h_2 => exact (keeps_slotReaction 0).drive _ _ s
      all_goals exact .refl s
    · exact .refl s

/-! ## The sample as a whole -/

section TakeSample
variable {a : AxisId} {flagged : Bool} {p : Nat} {s : State}

/-- The sensor as the sample leaves it, with the Position States derived. -/
def sampleTaken (a : AxisId) (flagged : Bool) (p : Nat) (s : State) : State :=
  sensed a (sampled s.parked flagged p s.sensors[a]) s

theorem takeSample_fault (hn : (sampled s.parked flagged p s.sensors[a]).state = .fault)
    (ho : s.sensors[a].state ≠ .fault) :
    takeSample a flagged p s = sensorFaulted a (sampleTaken a flagged p s) := if_pos ⟨hn, ho⟩

theorem takeSample_valid (hn : (sampled s.parked flagged p s.sensors[a]).state = .valid) :
    takeSample a flagged p s = strokeSample a p (sampleTaken a flagged p s) :=
  (if_neg (by rw [hn]; exact fun h => absurd h.1 nofun)).trans (if_pos hn)

theorem takeSample_keeps (a : AxisId) (flagged : Bool) (p : Nat) (s : State) :
    Keeps (sampleTaken a flagged p s) (takeSample a flagged p s) := by
  have hcases : takeSample a flagged p s = sensorFaulted a (sampleTaken a flagged p s)
      ∨ takeSample a flagged p s = strokeSample a p (sampleTaken a flagged p s)
      ∨ takeSample a flagged p s = sampleTaken a flagged p s := by
    unfold takeSample
    dsimp only
    split
    · exact .inl rfl
    · split
      · exact .inr (.inl rfl)
      · exact .inr (.inr rfl)
  rcases hcases with h | h | h <;> rw [h]
  · exact sensorFaulted_keeps a _
  · exact strokeSample_keeps a p _
  · exact .refl _

theorem exec_sample (hp : (s.axisCfg a).present = true) : exec (.sensorSample a flagged p) s
    = .next (settle (takeSample a flagged p s)) := by
  rw [exec_sensorSample, if_pos hp]

end TakeSample

section Onward
variable {a : AxisId} {p q : Nat} {s : State} {k : Stroke}

/-- What the taking of a sample of a VALID sensor leaves for the stroke on its axis: the slots, the grant,
the strokes, the supply state and the record in force. -/
theorem sampleTaken_supply (a : AxisId) (flagged : Bool) (p : Nat) (s : State) :
    (sampleTaken a flagged p s).sup.supply = s.sup.supply ∧ (sampleTaken a flagged p s).cfg = s.cfg := by
  have hkeeps := derivePositions_keeps (setSensor a (sampled s.parked flagged p s.sensors[a]) s)
  exact ⟨hkeeps.supply, hkeeps.cfg⟩

/-- The record of a slot whose stroke ended on the axis at its last sample (R38). -/
theorem withLastMove_sampled {x : Slot} {y : Sensor} (hx : x.curAxis = some a) :
    withLastMove (sensed a y s) x = { x with run := { x.run with lastMove := some (a, y.last) } } := by
  rw [withLastMove, hx, sensed_sensors, Option.map_some, Option.some_or, Fin.getElem_fin, upd_same]

/-- The end OVER of a stroke that a sample shows past its target or its envelope (R105). -/
theorem driveSample_over {y : Sensor} (hk : s.se.stroke = some k) (hh : s.arb.holder = some k.slot)
    (hcur : (s.slot k.slot).curAxis = some k.axis)
    (ho : OverAt ((sensed k.axis y s).axisCfg k.axis) k p) :
    (driveSample k p (sensed k.axis y s)).slot k.slot = endedRecord .over none { s.slot k.slot with run :=
        { (s.slot k.slot).run with lastMove := some (k.axis, y.last) } }
      ∧ (driveSample k p (sensed k.axis y s)).se
        = { s.se with drives := s.se.drives.set k.axis Drive.rest, stroke := none }
      ∧ (driveSample k p (sensed k.axis y s)).arb.holder = none
      ∧ ∀ j, j ≠ k.slot → (driveSample k p (sensed k.axis y s)).slot j = s.slot j := by
  have hover : driveSample k p (sensed k.axis y s) = strokeEnds k.slot .over (sensed k.axis y s) :=
    if_pos ((overTest_iff _ _ _).mpr ho)
  have hholder : (sensed k.axis y s).arb.holder = some k.slot := by rw [sensed_arb]; exact hh
  have hstroke : (sensed k.axis y s).se.stroke = some k := by rw [sensed_se]; exact hk
  rw [hover]
  refine ⟨?_, ?_, strokeEnds_holder hholder _, fun j hj => ?_⟩
  · rw [strokeEnds_ended (e := .over) hholder nofun rfl, sensed_slot, withLastMove_sampled hcur]
    rfl
  · rw [strokeEnds_se hholder, dropStroke_some hstroke, sensed_se]
    rfl
  · rw [strokeEnds_slot_ne hj, sensed_slot]

end Onward

/-- Settles O33: the sensor by `sampled`, its fault by `sensorFaulted`, the stroke by `driveSample`,
`arrive` and `rampLevelNow`. -/
theorem sampleMovesTheSensorState : Obligations.SampleMovesTheSensorState := by
  intro a flagged p s
  refine ⟨fun hp => ?_, fun hp => ?_⟩
  · rw [exec_sensorSample, if_neg (by rw [hp]; exact nofun)]
  · have hsettled := settle_settled (takeSample a flagged p s)
    have hkeeps := takeSample_keeps a flagged p s
    have hsensors : (settle (takeSample a flagged p s)).sensors
        = upd s.sensors a fun _ => sampled s.parked flagged p s.sensors[a] := by
      rw [hsettled.sensors, hkeeps.sensors, sampleTaken, sensed_sensors]
    have hself : (settle (takeSample a flagged p s)).sensors[a]
        = sampled s.parked flagged p s.sensors[a] := by
      rw [hsensors]
      exact upd_same _ _ _
    have hposition := hsettled.position
    have hrest := (sensed_keeps a _ s hkeeps).trans hsettled.toKeeps
    have hfirst := sensed_keeps a _ s hkeeps
    rw [← hsettled.sensors, ← hposition] at hfirst
    refine ⟨_, _, exec_sample hp, hsettled, hfirst, fun b hb => ?_, fun hs hf => ?_, fun hs hf hc => ?_,
      fun c hs hf hc h1 h2 => ?_, fun q hs hf hq h1 h2 => ?_, fun q hs hq hj => ⟨?_, ?_⟩,
      fun q i hs hq hj hh hcur => ?_, fun hs hf => ?_, fun hs hf => ?_,
      fun q k hs hf hq h1 h2 hk hka hh hcur => ?_, hrest.blocks, hrest.hold, hrest.loop, hrest.veh,
      hrest.cfg, hrest.store, hrest.lines⟩
    · rw [hsensors]
      exact upd_ne _ _ (Ne.symm hb)
    · rw [hself, hf, sampled_unsynced_flagged hs]
    · rw [hself, hf, sampled_candidate hs hc]
    · rw [hself, hf, sampled_synced hs hc h1 h2]
      rfl
    · rw [hself, hf, sampled_followed hs hq h1 h2]
      rfl
    · rw [hself, sampled_jumped hs hq hj]
    · refine hsettled.raised _ ?_
      rw [takeSample_fault (by rw [sampled_jumped hs hq hj]) (by rw [hs]; exact nofun)]
      exact sensorFaulted_flag a _
    · have hnew := sampled_jumped (parked := s.parked) hs hq hj
      have hfault := takeSample_fault (s := s) (by rw [hnew]) (by rw [hs]; exact nofun)
      have hholder : (sampleTaken a flagged p s).arb.holder = some i := by
        rw [sampleTaken, sensed_arb]; exact hh
      have haxis : ((sampleTaken a flagged p s).slot i).curAxis = some a := by
        rw [sampleTaken, sensed_slot]; exact hcur
      have hended := sensorFaulted_ended hholder haxis
      have hgrant := sensorFaulted_holder hholder haxis
      have hreported : (report (.sensor a) (sampleTaken a flagged p s)).arb.holder = some i := hholder
      have hse : (report (.sensor a) (sampleTaken a flagged p s)).se = s.se := by
        rw [report_se, sampleTaken, sensed_se]
      rw [hfault] at hsettled ⊢
      refine ⟨?_, ?_, ?_, fun k hk => ?_, fun j hj => ?_⟩
      · rw [hsettled.ended hended, sampleTaken, sensed_slot, sensed_sensors, Fin.getElem_fin, upd_same,
          hnew, hq]
      · rw [hgrant, strokeEnds_holder hreported]
      · rw [hgrant, strokeEnds_se hreported, dropStroke_stroke]
      · rw [hgrant, strokeEnds_se hreported, dropStroke_drive (by rw [hse]; exact hk), if_pos rfl]
      · rw [hgrant, strokeEnds_slot_ne hj, report_slot, sampleTaken, sensed_slot]
    · rw [hself, hf, sampled_fault_flagged hs]
    · rw [hself, hf, sampled_fault_anew hs]
    · subst hka
      subst hf
      have hnew := sampled_followed (parked := s.parked) hs hq h1 h2
      have hlast : (sampled s.parked false p s.sensors[k.axis]).last = some p := by rw [hnew]
      obtain ⟨hsupply, hcfg⟩ := sampleTaken_supply k.axis false p s
      have hsample := takeSample_valid (s := s) (by rw [hnew]; exact hs)
      rw [hsample] at hsettled ⊢
      have haxis : (sampleTaken k.axis false p s).axisCfg k.axis = s.axisCfg k.axis := by
        rw [State.axisCfg, hcfg]
        rfl
      have hsm : (sampleTaken k.axis false p s).sm = s.sm := sensed_sm _ _ s
      have harb : (sampleTaken k.axis false p s).arb = s.arb := sensed_arb _ _ s
      have hse : (sampleTaken k.axis false p s).se = s.se := sensed_se _ _ s
      have hslot (i : SlotId) : (sampleTaken k.axis false p s).slot i = s.slot i := sensed_slot _ _ s i
      have hdriving (hphase : k.phase = .driving) :
          strokeSample k.axis p (sampleTaken k.axis false p s)
            = driveSample k p (sampleTaken k.axis false p s) := by
        unfold strokeSample
        rw [hse, hk]
        dsimp only
        rw [if_pos rfl, hphase]
      have harrive (hphase : k.phase = .driving) (ho : ¬ OverAt (s.axisCfg k.axis) k p)
          (ha : ArrivedAt (s.axisCfg k.axis) k p) :
          strokeSample k.axis p (sampleTaken k.axis false p s)
            = arrive joinBound p k (sampleTaken k.axis false p s) := by
        rw [hdriving hphase]
        refine (if_neg ?_).trans (if_pos ?_)
        · rw [overTest_iff, haxis]; exact ho
        · rw [arrivalTest_iff, haxis]; exact ha
      refine ⟨fun hphase ho => ?_, fun hphase ho ha hj hts => ?_, fun nxt hphase ho ha hj hn hfar => ?_,
        fun hphase ho ha => ?_, fun hphase => ?_⟩
      · obtain ⟨hended, hends⟩ := driveSample_over (y := sampled s.parked false p s.sensors[k.axis])
          hk hh hcur (by rw [← haxis] at ho; exact ho)
        rw [hlast] at hended
        rw [hdriving hphase] at hsettled ⊢
        exact ⟨hsettled.ended hended, hends⟩
      · rw [harrive hphase ho ha]
        have hsettling := arrive_settling (n := 31) (p := p) (s := sampleTaken k.axis false p s) hj
          (by rw [haxis]; exact hts)
        rw [show arrive joinBound p k _ = _ from hsettling, haxis, flowEnds_eq]
        refine ⟨hsm, ?_, rfl, ?_⟩
        · exact flowEnds_arb_congr harb hsupply hcfg
        · exact congrArg (fun v : StrokeEngine => upd v.drives k.axis
            fun x => { x with level := 0, valve := .neutral }) hse
      · rw [harrive hphase ho ha]
        obtain ⟨k2, htaken⟩ := arrive_joined (n := 31) (s := sampleTaken k.axis false p s) hj
          (by rw [hslot]; exact hn) (by rw [haxis]; exact hfar)
        have hfig := htaken.figures.congr (s := s)
          (x := { s.slot k.slot with step := (s.slot k.slot).step + 1 }) (by rw [hslot])
          (by rw [hslot]) hsupply hcfg
        refine ⟨k2, htaken.stroke, htaken.slot, hfig, htaken.phase, htaken.limitT, htaken.stallT, ?_,
          htaken.arb.trans harb, ?_, fun j hj => ?_, ?_⟩
        · rw [show (arrive joinBound p k _).se.drives = _ from htaken.drives, hse, haxis]
        · rw [show (arrive joinBound p k _).sm.queue = _ from htaken.queue, hsm]
        · rw [show (arrive joinBound p k _).slot j = _ from htaken.others j hj, hslot]
        · rw [show (arrive joinBound p k _).slot k.slot = _ from htaken.self, hslot]
      · rw [hdriving hphase, driveSample_onward (by rw [haxis]; exact ho) (by rw [haxis]; exact ha), haxis]
        refine ⟨hsm, harb, rfl, ?_⟩
        exact congrArg (fun v : StrokeEngine => upd v.drives k.axis
          fun x => { x with level := driveLevel (s.axisCfg k.axis) k p }) hse
      · have hstopping : strokeSample k.axis p (sampleTaken k.axis false p s)
            = rampLevelNow k (sampleTaken k.axis false p s) := by
          unfold strokeSample
          rw [hse, hk]
          dsimp only
          rw [if_pos rfl, hphase]
        rw [hstopping, rampLevelNow, haxis]
        refine ⟨hsm, harb, ?_, ?_⟩
        · exact (congrArg StrokeEngine.stroke hse).trans hk
        · exact congrArg (fun v : StrokeEngine => upd v.drives k.axis fun x => { x with
            level := rampLevelAt (s.axisCfg k.axis).ts (k.rampT.getD 0) k.rampLevel
              (if k.started then k.vc else 0) }) hse

end Sys2Proof.Machine
end

section
/-! PROOFS. The power state (R167), the ignition line, the latch switches (R51, R110) and the loop outside
READY (R132, R133, R136, R137). -/

namespace Sys2Proof.Machine

/-! ## The power state -/

/-- The judgement of the power state by the RUN condition (R167). -/
theorem judgePower_sup (s : State) : (judgePower s).sup = { s.sup with
    power := if s.sup.power = .parked then .parked else if runCondition s then .run else .standby
    standbyT := if s.sup.power = .run ∧ runCondition s = false then some 600000
      else if s.sup.power = .standby ∧ runCondition s = true then none else s.sup.standbyT } := by
  have hself (p : PowerState) (hp : s.sup.power = p) : s.sup = { s.sup with power := p } := by rw [← hp]
  unfold judgePower
  cases hp : s.sup.power with
  | parked => simpa using hself _ hp
  | run =>
    cases hr : runCondition s with
    | true => simpa using hself _ hp
    | false => simp [standbyMs]
  | standby =>
    cases hr : runCondition s with
    | true => simp
    | false => simpa using hself _ hp

theorem runCondition_congr {s t : State} (hlines : t.lines = s.lines) (hveh : t.veh = s.veh)
    (hslot : ∀ i, t.slot i = s.slot i) (hposition : t.zt.position = s.zt.position) :
    runCondition t = runCondition s := by
  simp only [runCondition, ignitionOn, State.fresh, allSlotsFree, anyOpen, hlines, hveh, hslot, hposition]

/-- Settles O48: a change of the ignition judges the power state (`judgePower_sup`). -/
theorem ignitionChangeJudgesThePower : Obligations.IgnitionChangeJudgesThePower := by
  intro on s
  refine ⟨fun hs => ?_, fun hp hon => ?_, fun hp hoff => ?_, fun hp hne => ?_⟩
  · rw [exec_ignitionLineChange, if_pos hs]
  · have hparked : State.parked { s with lines := { s.lines with ignition := false } } = true := hp
    rw [exec_ignitionLineChange, if_neg (by rw [hon]; exact nofun), ignitionChanged]
    dsimp only
    rw [if_pos hparked, if_neg nofun]
  · have hparked : State.parked { s with lines := { s.lines with ignition := true } } = true := hp
    rw [exec_ignitionLineChange, if_neg (by rw [hoff]; exact nofun), ignitionChanged]
    dsimp only
    rw [if_pos hparked, if_pos rfl]
  · have hawake : ¬ s.sup.power = .parked := by
      intro h
      rw [State.parked, h] at hp
      exact absurd hp nofun
    generalize hu : ({ s with lines := { s.lines with ignition := on } } : State) = u
    have hparked : ¬ u.parked = true := by rw [← hu]; exact fun h => absurd (hp.symm.trans h) nofun
    have hchanged : exec (.ignitionLineChange on) s = .next (judgeIgnition (ignitionOn s) u) := by
      rw [exec_ignitionLineChange, if_neg hne, ignitionChanged]
      dsimp only
      rw [hu, if_neg hparked]
    have hsup : u.sup = s.sup := by rw [← hu]
    have hjudged : judgeIgnition (ignitionOn s) u = { u with sup := (judgeIgnition (ignitionOn s) u).sup } := by
      unfold judgeIgnition
      split
      · rfl
      · rw [judgePower_eq]
    have hcases : (judgeIgnition (ignitionOn s) u).sup = u.sup
        ∧ ignitionOn u = ignitionOn s
        ∨ (judgeIgnition (ignitionOn s) u).sup = (judgePower u).sup := by
      unfold judgeIgnition
      split
      · rename_i h; exact .inl ⟨rfl, h⟩
      · exact .inr rfl
    have hcond : ignitionOn { u with sup := (judgeIgnition (ignitionOn s) u).sup } = ignitionOn u := rfl
    have hrun : runCondition { u with sup := (judgeIgnition (ignitionOn s) u).sup } = runCondition u := rfl
    refine ⟨_, hchanged, ?_, ?_, fun hon hbefore => ?_, fun hoff hafter => ?_, fun hr hst => ?_,
      fun hst hr => ?_⟩
    · rw [hjudged, ← hu]
    · rcases hcases with ⟨h, -⟩ | h
      · rw [h, hsup]
      · rw [h, judgePower_sup, hsup]
    · have hnow : ignitionOn u = true := by rw [← hu, hon]; rfl
      rcases hcases with ⟨-, h⟩ | h
      · exact absurd (hnow.symm.trans (h.trans hbefore)) nofun
      · rw [h, judgePower_sup, hsup, if_neg hawake, if_pos (by rw [runCondition, hnow]; rfl)]
    · rw [hjudged, hcond] at hafter
      have hbefore : ignitionOn s = true := by
        have hline : s.lines.ignition = true := by rw [hoff] at hne; simpa using hne
        rw [ignitionOn, hline]
        rfl
      have hpower : (judgeIgnition (ignitionOn s) u).sup.power = if runCondition u then .run else .standby := by
        rcases hcases with ⟨-, h⟩ | h
        · exact absurd (hafter.symm.trans (h.trans hbefore)) nofun
        · rw [h, judgePower_sup, hsup, if_neg hawake]
      rw [hpower]
      rw [hjudged, hrun]
    · rcases hcases with ⟨h, -⟩ | h
      · rw [h, hsup, hr] at hst
        exact absurd hst nofun
      · rw [h, judgePower_sup, hsup, if_neg hawake] at hst
        have hcondition : runCondition u = false := by
          cases hc : runCondition u with
          | false => rfl
          | true => rw [hc] at hst; exact absurd hst nofun
        simp [h, judgePower_sup, hsup, hr, hcondition]
    · rcases hcases with ⟨h, -⟩ | h
      · rw [h, hsup, hst] at hr
        exact absurd hr nofun
      · rw [h, judgePower_sup, hsup, if_neg hawake] at hr
        have hcondition : runCondition u = true := by
          cases hc : runCondition u with
          | true => rfl
          | false => rw [hc] at hr; exact absurd hr nofun
        simp [h, judgePower_sup, hsup, hst, hcondition]

/-! ## The latch switches -/

theorem derivePositions_position (s : State) (z : ZoneId) :
    (derivePositions s).zt.position[z] = positionNow s z := by
  have hderived : (derivePositions s).zt.position = #v[positionNow s 0, positionNow s 1, positionNow s 2,
      positionNow s 3, positionNow s 4] := by
    unfold derivePositions
    dsimp only
    split
    · rename_i h; exact h.symm
    · rw [judgePower_eq]
  rw [hderived]
  match z with
  | 0 | 1 | 2 | 3 | 4 => rfl

theorem positionNow_congr {s t : State} (hsensors : t.sensors = s.sensors) (hlines : t.lines = s.lines)
    (hcfg : t.cfg = s.cfg) (z : ZoneId) : positionNow t z = positionNow s z := by
  have haxis : t.axisCfg = s.axisCfg := by funext a; rw [State.axisCfg, State.axisCfg, hcfg]
  have hhome : axisHome t = axisHome s := by
    funext a
    simp only [axisHome, State.axisPos, State.latchMade, haxis, hsensors, hlines]
  have hzone : axisInZone t = axisInZone s := by
    funext a z
    simp only [axisInZone, State.axisZone, haxis]
  rw [positionNow, positionNow, hzone, hhome]

/-- A latch switch's new reading on its line. -/
def latchStored (d : DoorId) (made : Bool) (s : State) : State :=
  { s with lines := { s.lines with latchMade := upd s.lines.latchMade d fun _ => made } }

/-- The new reading of a latch switch, with the Position States derived from it (R51). -/
def latchRead (d : DoorId) (made : Bool) (s : State) : State := derivePositions (latchStored d made s)

theorem latchRead_keeps (d : DoorId) (made : Bool) (s : State) :
    Keeps { s with
      lines := { s.lines with latchMade := upd s.lines.latchMade d fun _ => made }
      zt := { s.zt with position := (latchRead d made s).zt.position } } (latchRead d made s) := by
  have hkeeps := derivePositions_keeps (s := latchStored d made s)
  exact hkeeps

/-- The waiting stroke drives, or nothing more changes (R110). -/
theorem latchChanged_cases (d : DoorId) (made : Bool) (s : State) :
    (∃ k, s.se.stroke = some k ∧ k.phase = .latchWait ∧ k.axis = doorAxis d ∧ made = false
      ∧ latchChanged d made s = beginDriving k k.s (latchRead d made s))
    ∨ ((∀ k, s.se.stroke = some k → ¬ (k.phase = .latchWait ∧ k.axis = doorAxis d ∧ made = false))
      ∧ latchChanged d made s = latchRead d made s) := by
  have hse : (latchRead d made s).se = s.se := by simp [latchRead, latchStored]
  have hchanged : latchChanged d made s = match (latchRead d made s).se.stroke with
    | none => latchRead d made s
    | some k => if k.phase = .latchWait ∧ k.axis = doorAxis d ∧ made = false
        then beginDriving k k.s (latchRead d made s) else latchRead d made s := rfl
  rw [hse] at hchanged
  cases hk : s.se.stroke with
  | none =>
    rw [hk] at hchanged
    exact .inr ⟨nofun, hchanged⟩
  | some k =>
    rw [hk] at hchanged
    by_cases hw : k.phase = .latchWait ∧ k.axis = doorAxis d ∧ made = false
    · obtain ⟨hp, ha, hm⟩ := hw
      exact .inl ⟨k, rfl, hp, ha, hm, hchanged.trans (if_pos ⟨hp, ha, hm⟩)⟩
    · refine .inr ⟨fun k' hk' => ?_, hchanged.trans (if_neg hw)⟩
      cases hk'
      exact hw

/-- Settles O50: the reading is stored and the Position States derived (`latchRead`), and a waiting stroke
drives. -/
theorem latchSwitchIsRead : Obligations.LatchSwitchIsRead := by
  intro d made s hp
  refine ⟨fun hs => ?_, fun hne => ?_⟩
  · rw [exec_latchSwitchChange, if_pos hs]
  · have hexec : exec (.latchSwitchChange d made) s = .next (settle (latchChanged d made s)) := by
      rw [exec_latchSwitchChange, if_neg hne, wake_awake hp]
    have hread := latchRead_keeps d made s
    have hcases := latchChanged_cases d made s
    have hkept : Keeps (latchRead d made s) (latchChanged d made s) := by
      rcases hcases with ⟨k, -, -, -, -, h⟩ | ⟨-, h⟩
      · rw [h]; exact (keeps_slotReaction 0).beginDriving _ _ _
      · rw [h]; exact .refl _
    have hsettled := settle_settled (latchChanged d made s)
    have hall := (hread.trans hkept).trans hsettled.toKeeps
    have hfrom := hkept.trans hsettled.toKeeps
    have hse : (latchRead d made s).se = s.se := by simp [latchRead, latchStored]
    have hsm : (latchRead d made s).sm = s.sm := by simp [latchRead, latchStored]
    have harb : (latchRead d made s).arb = s.arb := by simp [latchRead, latchStored]
    refine ⟨_, _, hexec, hsettled, hall.lines, fun z => ?_, ?_, ?_, ?_, fun k hk hphase ha hm => ?_,
      fun hno => ?_⟩
    · rw [positionNow_congr hfrom.sensors hfrom.lines hfrom.cfg, hfrom.position]
      refine (derivePositions_position _ z).trans (positionNow_congr ?_ ?_ ?_ z).symm
      · exact derivePositions_sensors _
      · exact hread.lines
      · exact hread.cfg
    · rw [hall.lines, hall.position]
      exact hall
    · rcases hcases with ⟨k, -, -, -, -, h⟩ | ⟨-, h⟩
      · rw [h]; exact hsm
      · rw [h]; exact hsm
    · rcases hcases with ⟨k, -, -, -, -, h⟩ | ⟨-, h⟩
      · rw [h]; exact harb
      · rw [h]; exact harb
    · rcases hcases with ⟨k', hk', -, -, -, h⟩ | ⟨hno, -⟩
      · obtain rfl : k' = k := Option.some.inj (hk'.symm.trans hk)
        rw [h]
        refine ⟨rfl, ?_, ?_⟩
        · rw [beginDriving_drives, Fin.getElem_fin, upd_same]
        · rw [beginDriving_drives, Fin.getElem_fin, upd_same]
      · exact absurd ⟨hphase, ha, hm⟩ (hno k hk)
    · rcases hcases with ⟨k, hk, hphase, ha, hm, -⟩ | ⟨-, h⟩
      · rcases hno with hno | hmade
        · rcases hno k hk with hphase' | ha'
          · exact absurd hphase hphase'
          · exact absurd ha ha'
        · exact absurd (hm.symm.trans hmade) nofun
      · rw [h, hse]

end Sys2Proof.Machine
end

section
/-! PROOFS. The loop outside READY (R132, R133) and Emergency Reset (R136, R137). -/

namespace Sys2Proof.Machine

/-! ## A change of reading outside READY -/

/-- The loop after a change of a channel's reading (R132, R133). -/
def loopMoved (ch : Channel) (closed : Bool) (l : Loop) : Loop :=
  { l.withReading ch closed with
    state := (loopAfter (l.withReading ch closed)).1
    bothOpen := (loopAfter (l.withReading ch closed)).2
    discT := discrepancyAfter { l.withReading ch closed with
      state := (loopAfter (l.withReading ch closed)).1 } }

section
variable (ch : Channel) (closed : Bool) (l : Loop)

theorem withReading_closedA : (l.withReading ch closed).closedA = if ch = .a then closed else l.closedA := by
  cases ch <;> rfl

theorem withReading_closedB : (l.withReading ch closed).closedB = if ch = .b then closed else l.closedB := by
  cases ch <;> rfl

theorem withReading_bothOpen : (l.withReading ch closed).bothOpen = l.bothOpen := by cases ch <;> rfl

end

section
variable {ch : Channel} {closed : Bool} {l m : Loop} (hm : loopMoved ch closed l = m)
include hm

theorem loopMoved_closes (hl : l.state = .tripped) (ha : m.closedA = true) (hb : m.closedB = true) :
    m.state = .closedWait := by
  subst hm
  have ha' : (l.withReading ch closed).closedA = true := ha
  have hb' : (l.withReading ch closed).closedB = true := hb
  simp only [loopMoved, loopAfter, withReading_state, hl, ha', hb', Bool.and_self, if_true]

theorem loopMoved_opens (hl : l.state = .tripped ∨ l.state = .closedWait)
    (ho : m.closedA = false ∨ m.closedB = false) : m.state = .tripped := by
  subst hm
  have hopen : ((l.withReading ch closed).closedA && (l.withReading ch closed).closedB) = false := by
    rcases ho with h | h
    · rw [show (l.withReading ch closed).closedA = false from h]; rfl
    · rw [show (l.withReading ch closed).closedB = false from h]; exact Bool.and_false _
  rcases hl with hl | hl <;>
    simp only [loopMoved, loopAfter, withReading_state, hl, hopen, Bool.false_eq_true, if_false]

/-- Outside LOOP_FAULT the mark stays and the timer follows the disagreement. -/
theorem loopMoved_timed (hl : l.state ≠ .loopFault) : m.bothOpen = l.bothOpen
    ∧ m.discT = (if m.closedA = m.closedB then none
      else if l.discT = none then some 200 else l.discT) := by
  subst hm
  have hstate : (loopAfter (l.withReading ch closed)).1 ≠ .loopFault := by
    rw [loopAfter, (withReading_state _ _ _).1]
    cases hs : l.state with
    | ready => dsimp only; split <;> exact nofun
    | tripped => dsimp only; split <;> exact nofun
    | closedWait => dsimp only; split <;> exact nofun
    | loopFault => exact absurd hs hl
  constructor
  · show (loopAfter (l.withReading ch closed)).2 = l.bothOpen
    rw [loopAfter, (withReading_state _ _ _).1, withReading_bothOpen]
    cases hs : l.state with
    | ready | tripped | closedWait => rfl
    | loopFault => exact absurd hs hl
  · simp only [loopMoved, discrepancyAfter, if_neg hstate, withReading_state]
    cases l.discT <;> rfl

/-- In LOOP_FAULT (R133): the mark records both channels open, and both closed after it leave the state. -/
theorem loopMoved_fault (hl : l.state = .loopFault) :
    m.state = (if l.bothOpen = true ∧ m.closedA = true ∧ m.closedB = true then .closedWait else .loopFault)
    ∧ (m.state = .loopFault → m.discT = l.discT
        ∧ m.bothOpen = (l.bothOpen || (!m.closedA && !m.closedB)))
    ∧ (m.state = .closedWait → m.bothOpen = false ∧ m.discT = none) := by
  subst hm
  simp only [loopMoved, loopAfter, discrepancyAfter, withReading_state, withReading_bothOpen, hl]
  generalize (l.withReading ch closed).closedA = a
  generalize (l.withReading ch closed).closedB = b
  cases a <;> cases b <;> cases l.bothOpen <;> simp

end

/-- A change of reading outside READY: the loop moves, and a change of its state is alerted (R135). -/
theorem channelChanged_outside {s : State} (ch : Channel) (closed : Bool) (h : s.loop.state ≠ .ready) :
    channelChanged ch closed s =
      if (loopMoved ch closed s.loop).state = s.loop.state then { s with loop := loopMoved ch closed s.loop }
      else placeAll (.alert (.loop (loopMoved ch closed s.loop).state s.loop.state
          (loopMoved ch closed s.loop).closedA (loopMoved ch closed s.loop).closedB none))
        { s with loop := loopMoved ch closed s.loop } := by
  unfold channelChanged
  dsimp only
  simp only [withReading_state]
  by_cases hstate : (loopMoved ch closed s.loop).state = s.loop.state
  · have hafter : (loopAfter (s.loop.withReading ch closed)).1 = s.loop.state := hstate
    rw [if_pos hafter, if_pos hstate]
    unfold loopMoved
    rw [hafter]
    simp only [withReading_state]
  · have hafter : ¬ (loopAfter (s.loop.withReading ch closed)).1 = s.loop.state := hstate
    rw [if_neg hafter, if_neg h, if_neg hstate]
    simp only [setLoop, loopMoved, withReading_state]

/-- Settles O44: the loop moves as `loopMoved` says, and each change of its state is alerted
(`channelChanged_outside`). -/
theorem loopStatesOutsideReady : Obligations.LoopStatesOutsideReady := by
  intro ch closed s
  refine ⟨fun hr => ?_, fun hp hready hne => ?_, fun hd => ?_, fun hd => ?_⟩
  · rw [exec_channelChange, if_pos hr]
  · have hexec : exec (.channelChange ch closed) s = .next (settle (channelChanged ch closed s)) := by
      rw [exec_channelChange, if_neg hne, wake_awake hp]
    have hchanged := channelChanged_outside ch closed hready
    generalize hm : loopMoved ch closed s.loop = m at hchanged
    generalize channelChanged ch closed s = u at hexec hchanged
    have hsettled := settle_settled u
    have hkept : Keeps { s with loop := m } u := by
      rw [hchanged]
      split
      · exact .refl _
      · exact placeAll_keeps _ _
    have hloop : (settle u).loop = m := hsettled.loop.trans hkept.loop
    have hslots (i : SlotId) : u.slot i = s.slot i := by
      rw [hchanged]
      split
      · rfl
      · exact placeAll_slot _ _ i
    refine ⟨settle u, hexec, ?_, ?_, ?_, ?_, ?_, ?_, ?_, ?_, ?_, ?_, ?_, ?_, ?_⟩
    all_goals try rw [hloop]
    · rw [← hm]; exact withReading_closedA ch closed s.loop
    · rw [← hm]; exact withReading_closedB ch closed s.loop
    · exact loopMoved_closes hm
    · exact fun hs => loopMoved_opens hm (.inl hs)
    · exact fun hs => loopMoved_opens hm (.inr hs)
    · exact fun hs => (loopMoved_fault hm hs).1
    · exact loopMoved_timed hm
    · exact fun hs => (loopMoved_fault hm hs).2.1
    · exact fun hs => (loopMoved_fault hm hs).2.2
    · intro hstate
      rw [if_pos hstate] at hchanged
      rw [← hchanged]
      exact hsettled
    · intro hstate
      rw [if_neg hstate] at hchanged
      rw [← hchanged]
      exact hsettled
    · intro i hi
      exact ((hsettled.inert i (by rw [hslots]; exact hi)).1).trans (hslots i)
    · exact hkept.trans hsettled.toKeeps
  · rw [exec_discrepancyTimerExpiry, if_neg (by rw [due_iff]; exact hd)]
  · have hexec : exec .discrepancyTimerExpiry s = .next (settle (discrepancyExpired s)) := by
      rw [exec_discrepancyTimerExpiry, if_pos (by rw [due_iff]; exact hd)]
    have hexpired : discrepancyExpired s = report .loop
        (placeAll (.alert (.loop .loopFault s.loop.state s.loop.closedA s.loop.closedB none))
          { s with loop := { s.loop with state := .loopFault, discT := none, bothOpen := false } }) := rfl
    generalize discrepancyExpired s = u at hexec hexpired
    generalize hl : ({ s.loop with state := .loopFault, discT := none, bothOpen := false } : Loop) = m
      at hexpired
    have hsettled := settle_settled u
    have hkept : Keeps { s with loop := m } u := by
      rw [hexpired]
      exact (placeAll_keeps _ _).trans (report_keeps _ _)
    have hloop : (settle u).loop = m := hsettled.loop.trans hkept.loop
    have hslots (i : SlotId) : u.slot i = s.slot i := by
      rw [hexpired]
      exact (report_slot _ _ i).trans (placeAll_slot _ _ i)
    refine ⟨settle u, hexec, ?_, ?_, ?_, ?_, fun i hi => ?_⟩
    · rw [hloop, ← hl]
    · rw [hsettled.flags .loop nofun, hexpired, report_faults, flagIn_raiseFlag, decide_eq_true rfl, Bool.or_true]
    · rw [hloop, ← hexpired]; exact hsettled
    · rw [hloop]; exact hkept.trans hsettled.toKeeps
    · exact ((hsettled.inert i (by rw [hslots]; exact hi)).1).trans (hslots i)

/-! ## Emergency Reset -/

theorem Keeps.withLoop {s t : State} (h : Keeps s t) (l : Loop) :
    Keeps { s with loop := l } { t with loop := l } :=
  { h with loop := rfl }

/-- Settles O45: the reset is `setLoop` and the judgement of the power state (`judgePower_sup`). -/
theorem emergencyResetNeedsClosedWait : Obligations.EmergencyResetNeedsClosedWait := by
  intro src s hr
  refine ⟨fun htrust => ⟨fun hclosed => ?_, fun hne => ?_⟩, fun hcrew hno => ?_⟩
  · have htrusted : trusted s (senderStation src) = true := by
      rcases htrust with rfl | ⟨hf, hl⟩
      · rfl
      · simp [trusted, hf, hl]
    generalize hv : answer (senderStation src) 13 .ok (.loop .ready) (requestTaken src s) = v
    have hvk : Keeps (requestTaken src s) v := by rw [← hv]; exact place_keeps _ _ _
    have hvslot (i : SlotId) : v.slot i = s.slot i := by
      rw [← hv]; exact (place_slot _ _ _ i).trans (requestTaken_slot src s i)
    have hvsup : v.sup = s.sup := by rw [← hv]; exact (place_sup _ _ _).trans (requestTaken_sup src s)
    have hvloop : v.loop = s.loop := hvk.loop.trans (requestTaken_loop src s)
    generalize hw : placeAll (.alert (.loop .ready .closedWait s.loop.closedA s.loop.closedB
      (some (senderStation src)))) { v with loop := { s.loop with state := .ready } } = w
    have hset : setLoop .ready (some (senderStation src)) v = w := by
      rw [← hw, setLoop, hvloop, hclosed]
    have htake : takeEmergencyReset (senderStation src) (requestTaken src s) = settle (judgePower w) := by
      rw [← hset, ← hv, takeEmergencyReset, trusted_requestTaken, htrusted, requestTaken_loop,
        if_neg nofun, if_pos hclosed]
      rfl
    have hexec : exec (.emergencyReset src) s = .next (linkClosed src (settle (judgePower w))) := by
      rw [exec_emergencyReset, viaLink_reaches hr, htake]
    have hwk : Keeps { v with loop := { s.loop with state := .ready } } w := by
      rw [← hw]; exact placeAll_keeps _ _
    have hwslot (i : SlotId) : w.slot i = s.slot i := by
      rw [← hw]; exact (placeAll_slot _ _ i).trans (hvslot i)
    have hwsup : w.sup = s.sup := by rw [← hw]; exact (placeAll_sup _ _).trans hvsup
    have hcond : runCondition w = runCondition s := by
      refine runCondition_congr ?_ ?_ hwslot ?_
      · exact hwk.lines.trans (hvk.lines.trans (requestTaken_lines src s))
      · exact hwk.veh.trans (hvk.veh.trans (requestTaken_veh src s))
      · rw [hwk.position]
        exact hvk.position.trans (congrArg ZoneTable.position (requestTaken_zt src s))
    have hjk : Keeps w (judgePower w) := (keeps_slotReaction 0).judgePower w
    have hjslot (i : SlotId) : (judgePower w).slot i = w.slot i := judgePower_slot w i
    have hsettled := settled_linkClosed src (judgePower w)
    have hloop : (linkClosed src (settle (judgePower w))).loop = { s.loop with state := .ready } :=
      hsettled.loop.trans (hjk.loop.trans hwk.loop)
    refine ⟨_, _, hexec, ?_, ?_, hsettled, hloop, ?_, fun i hi => ?_⟩
    · rw [judgePower_eq]
    · rw [judgePower_sup, hwsup, hcond]
    · rw [hloop]
      exact ((hvk.withLoop _).trans hwk).trans (hjk.trans hsettled.toKeeps)
    · rw [(hsettled.inert i (by rw [hjslot, hwslot]; exact hi)).1, hjslot, hwslot]
  · have htrusted : trusted s (senderStation src) = true := by
      rcases htrust with rfl | ⟨hf, hl⟩
      · rfl
      · simp [trusted, hf, hl]
    rw [exec_emergencyReset, viaLink_answered hr (f := takeEmergencyReset) (k := 13) (c := .wrongState)
      (r := .loop s.loop.state)]
    rw [takeEmergencyReset, trusted_requestTaken, htrusted, requestTaken_loop, if_neg hne]
    rfl
  · have htrusted : trusted s (senderStation src) = false := by
      cases src with
      | cab => exact absurd rfl hcrew
      | crew c n =>
        have hst : (senderStation (.crew c n) == 0) = false := beq_eq_false_iff_ne.mpr (stationOf_ne_cab c)
        rcases hno with hf | hl
        · rw [trusted, hst, hf]; rfl
        · rw [trusted, hst, beq_eq_false_iff_ne.mpr hl, Bool.and_false]; rfl
    rw [exec_emergencyReset, viaLink_answered hr (f := takeEmergencyReset) (k := 13) (c := .notPermitted)
      (r := .loop s.loop.state)]
    rw [takeEmergencyReset, trusted_requestTaken, htrusted, requestTaken_loop]
    rfl

end Sys2Proof.Machine
end

section
/-! PROOFS. The entry into PARKED (R168): the enables are released, and what runs or is lit goes out. -/

namespace Sys2Proof.Machine

/-! ## The power state through the end of a sequence and a controlled stop -/

theorem judgePower_parked {s : State} (hp : s.sup.power = .parked) : judgePower s = s := by
  unfold judgePower
  rw [hp]

theorem releaseGrant_sup (i : SlotId) (s : State) : (releaseGrant i s).sup = s.sup := by
  rw [releaseGrant_eq]

theorem dropStroke_sup (s : State) : (dropStroke s).sup = s.sup := by rw [dropStroke_eq]

theorem toldPaused_sup (i : SlotId) (x : Slot) (c : PauseCause) (s : State) :
    (toldPaused i x c s).sup = s.sup := by
  simp only [toldPaused]
  repeat' split
  all_goals simp only [place_sup]

theorem pauseSlot_sup (i : SlotId) (c : PauseCause) (s : State) : (pauseSlot i c s).sup = s.sup := by
  rw [pauseSlot_eq]
  exact toldPaused_sup _ _ _ _

/-- The supply and power record is as it was, or the power state was judged once (R167). -/
def SupJudged (s t : State) : Prop :=
  t.sup = s.sup ∨ ∃ u : State, u.sup = s.sup ∧ t.sup = (judgePower u).sup

namespace SupJudged

/-- A reaction that leaves the record alone may stand before. -/
theorem after {s t u : State} (h : SupJudged t u) (hst : t.sup = s.sup) : SupJudged s u := by
  rcases h with h | ⟨v, hv, h⟩
  · exact .inl (h.trans hst)
  · exact .inr ⟨v, hv.trans hst, h⟩

theorem parked {s t : State} (h : SupJudged s t) (hp : s.sup.power = .parked) : t.sup = s.sup := by
  rcases h with h | ⟨u, hu, h⟩
  · exact h
  · rw [h, judgePower_parked (by rw [hu]; exact hp), hu]

/-- A judgement does not park the part. -/
theorem awake {s t : State} (h : SupJudged s t) (hp : s.parked = false) : t.parked = false := by
  have hpower : s.sup.power ≠ .parked := beq_eq_false_iff_ne.mp hp
  refine beq_eq_false_iff_ne.mpr ?_
  rcases h with h | ⟨u, hu, h⟩
  · rw [h]; exact hpower
  · rw [h, judgePower_sup, hu]
    dsimp only
    rw [if_neg hpower]
    split <;> exact nofun

theorem dispose (i : SlotId) (s : State) : SupJudged s (dispose i s) := by
  unfold Machine.dispose
  split
  · exact .inr ⟨modSlot i (fun _ => Slot.empty) s, rfl, rfl⟩
  · exact .inl rfl
  · exact .inl rfl

end SupJudged

theorem withdrawn_sup (i : SlotId) (cause : EndCause) (wait : Option WaitReason) (s : State) :
    (withdrawn i cause wait s).sup = s.sup := by
  rw [withdrawn, modSlot_sup, releaseGrant_sup]
  rfl

namespace SupJudged

theorem seqEnd (i : SlotId) (cause : EndCause) (wait : Option WaitReason) (s : State) :
    SupJudged s (seqEnd i cause wait s) := by
  rw [seqEnd_eq_dispose]
  refine (SupJudged.dispose i _).after ?_
  rw [modSlot_sup, place_sup, withdrawn_sup]

theorem stopEnds (k : Stroke) (s : State) : SupJudged s (stopEnds k s) := by
  have hsup : (releaseGrant k.slot (dropStroke s)).sup = s.sup := by
    rw [releaseGrant_sup, dropStroke_sup]
  unfold Machine.stopEnds
  dsimp only
  generalize releaseGrant k.slot (dropStroke s) = u at hsup
  split
  · split
    · exact .inl ((pauseSlot_sup _ _ u).trans hsup)
    · exact .inl hsup
  · exact (SupJudged.seqEnd _ _ _ u).after hsup

theorem controlledStop (o : StopOutcome) (s : State) : SupJudged s (controlledStop o s) := by
  unfold Machine.controlledStop
  split
  · split
    · dsimp only
      split
      · exact (SupJudged.stopEnds _ _).after rfl
      · exact .inl rfl
    · exact .inl rfl
  · exact .inl rfl

end SupJudged

/-! ## The enables are released -/

/-- A release of the enable acts by a controlled stop, if it acts at all (R67). -/
theorem enableReleased_cases (c : CrewId) (s : State) :
    enableReleased c s = s ∨ enableReleased c s = controlledStop .interruption s := by
  unfold enableReleased
  split
  · exact .inl rfl
  · split
    · exact .inr rfl
    · exact .inl rfl

theorem enableReleased_keeps (c : CrewId) (s : State) : Keeps s (enableReleased c s) := by
  rcases enableReleased_cases c s with h | h <;> rw [h]
  · exact .refl s
  · exact controlledStop_rel keeps_slotReaction _ s

theorem enableReleased_inert (c : CrewId) (s : State) : InertKept s (enableReleased c s) := by
  rcases enableReleased_cases c s with h | h <;> rw [h]
  · exact .of_sm rfl
  · exact controlledStop_inert _ s

theorem enableReleased_sup_parked (c : CrewId) {s : State} (hp : s.sup.power = .parked) :
    (enableReleased c s).sup = s.sup := by
  rcases enableReleased_cases c s with h | h <;> rw [h]
  exact (SupJudged.controlledStop _ s).parked hp

/-- What releases of enables in PARKED leave alone. -/
structure EnablesReleased (s t : State) : Prop where
  sup : s.sup.power = .parked → t.sup = s.sup
  sensors : t.sensors = s.sensors
  blocks : t.zt.blocks = s.zt.blocks
  hold : t.arb.hold = s.arb.hold
  loop : t.loop = s.loop
  veh : t.veh = s.veh
  lines : t.lines = s.lines
  cfg : t.cfg = s.cfg
  store : t.store = s.store
  link : ∀ c : CrewId, t.crew[c].link = s.crew[c].link
  enable : ∀ c : CrewId, s.crew[c].enable = false → t.crew[c].enable = false
  inert : InertKept s t

namespace EnablesReleased

theorem refl (s : State) : EnablesReleased s s where
  sup _ := rfl
  sensors := rfl
  blocks := rfl
  hold := rfl
  loop := rfl
  veh := rfl
  lines := rfl
  cfg := rfl
  store := rfl
  link _ := rfl
  enable _ h := h
  inert := .of_sm rfl

theorem trans {s t u : State} (h : EnablesReleased s t) (g : EnablesReleased t u) : EnablesReleased s u where
  sup hp := (g.sup (by rw [h.sup hp]; exact hp)).trans (h.sup hp)
  sensors := g.sensors.trans h.sensors
  blocks := g.blocks.trans h.blocks
  hold := g.hold.trans h.hold
  loop := g.loop.trans h.loop
  veh := g.veh.trans h.veh
  lines := g.lines.trans h.lines
  cfg := g.cfg.trans h.cfg
  store := g.store.trans h.store
  link c := (g.link c).trans (h.link c)
  enable c he := g.enable c (h.enable c he)
  inert := h.inert.trans g.inert

end EnablesReleased

theorem modCrew_get (c d : CrewId) (f : Crew → Crew) (s : State) :
    (modCrew c f s).crew[d] = if c = d then f s.crew[d] else s.crew[d] := by
  rw [modCrew_crew, Fin.getElem_fin, Fin.getElem_fin]
  split
  · rename_i h; subst h; exact upd_same _ _ _
  · rename_i h; exact upd_ne _ _ h

theorem released_enables (c : CrewId) (s : State) :
    EnablesReleased s (modCrew c (fun x => { x with enable := false }) s) where
  sup _ := rfl
  sensors := rfl
  blocks := rfl
  hold := rfl
  loop := rfl
  veh := rfl
  lines := rfl
  cfg := rfl
  store := rfl
  link d := by rw [modCrew_get]; split <;> rfl
  enable d hd := by
    rw [modCrew_get]
    split
    · rfl
    · exact hd
  inert := .of_sm rfl

theorem enableReleased_enables (c : CrewId) (s : State) : EnablesReleased s (enableReleased c s) :=
  have hkeeps := enableReleased_keeps c s
  { hkeeps with
    sup := enableReleased_sup_parked c
    enable := fun d hd => (hkeeps.enable d).trans hd
    inert := enableReleased_inert c s }

theorem setEnable_enables (c : CrewId) (s : State) : EnablesReleased s (setEnable c false s) := by
  unfold setEnable
  dsimp only
  split
  · exact (released_enables c s).trans (enableReleased_enables c _)
  · exact released_enables c s

theorem setEnable_enable (c : CrewId) (s : State) : (setEnable c false s).crew[c].enable = false := by
  have hset : (modCrew c (fun x => { x with enable := false }) s).crew[c].enable = false := by
    rw [modCrew_get, if_pos rfl]
  unfold setEnable
  dsimp only
  split
  · exact ((enableReleased_keeps c _).enable c).trans hset
  · exact hset

/-- The entry into PARKED releases the enables one after another, by number. -/
theorem foldl_setEnable (l : List CrewId) (s : State) :
    EnablesReleased s (l.foldl (fun s c => setEnable c false s) s)
    ∧ ∀ c ∈ l, (l.foldl (fun s c => setEnable c false s) s).crew[c].enable = false := by
  induction l generalizing s with
  | nil => exact ⟨.refl s, nofun⟩
  | cons c l ih =>
    obtain ⟨hrest, hheld⟩ := ih (setEnable c false s)
    refine ⟨(setEnable_enables c s).trans hrest, fun d hd => ?_⟩
    rcases List.mem_cons.mp hd with rfl | hd
    · exact hrest.enable d (setEnable_enable d s)
    · exact hheld d hd

/-! ## PARKED -/

theorem litAt_parked {s : State} (hp : s.parked = true) (d : Demand) : litAt s d = false := by
  rw [litAt, hp]
  rfl

theorem sounderCondition_parked {s : State} (hp : s.parked = true) : sounderCondition s = false := by
  rw [sounderCondition, hp, Bool.not_true, Bool.and_false, Bool.false_and]

theorem relight_parked {s : State} (hp : s.parked = true) :
    (∀ b : BeaconId, (relight s).bu.beacons[b].lit = false) ∧ (relight s).bu.sounder = false := by
  constructor
  · intro b
    have hfollow (x : Beacon) : (Beacon.follow s b x).lit = false := by
      unfold Beacon.follow
      split
      · exact litAt_parked hp _
      · exact litAt_parked hp _
    exact (congrArg Beacon.lit (mapBeacons_get (Beacon.follow s) s b) :).trans (hfollow _)
  · have hsilent := sounderCondition_parked (s := mapBeacons (Beacon.follow s) s) hp
    rw [relight, soundNow, hsilent]
    rfl

/-- Settles O49: the enables are released one by one (`foldl_setEnable`), the outputs are dark
(`relight_parked`). -/
theorem standbyExpiryParks : Obligations.StandbyExpiryParks := by
  intro s
  refine ⟨fun hd => ?_, fun hd => ?_⟩
  · rw [exec_standbyTimerExpiry, if_neg (by rw [due_iff]; exact hd)]
  · generalize hp : ({ s with sup := { s.sup with power := .parked, standbyT := none } } : State) = p
    obtain ⟨hreleased, hheld⟩ := foldl_setEnable allCrew p
    have hexec : exec .standbyTimerExpiry s
        = .next (darkened (allCrew.foldl (fun s c => setEnable c false s) p)) := by
      rw [exec_standbyTimerExpiry, if_pos (by rw [due_iff]; exact hd), enterParked_eq, hp]
    generalize allCrew.foldl (fun s c => setEnable c false s) p = u at hreleased hheld hexec
    have hsup : u.sup = { s.sup with power := .parked, standbyT := none } := by
      rw [hreleased.sup (by rw [← hp]), ← hp]
    have hparked : u.parked = true := by rw [State.parked, hsup]; rfl
    obtain ⟨hdark, hsilent⟩ := relight_parked (s := { mapBeacons (fun _ x => { x with fullOn := false })
      { u with sensors := u.sensors.map fun (x : Sensor) => { x with watchdog := none } } with
        tx := { u.tx with periodT := none } }) hparked
    refine ⟨_, hexec, congrArg Supply.power hsup, congrArg Supply.standbyT hsup, fun c => ⟨?_, ?_⟩,
      fun a => ?_, rfl, hdark, hsilent, ?_, ?_, ?_, ?_, ?_, ?_, ?_, fun i hi => ?_⟩
    · exact hheld c (mem_allCrew c)
    · exact (hreleased.link c).trans (by rw [← hp])
    · have hsensors : u.sensors = s.sensors := by rw [hreleased.sensors, ← hp]
      show (u.sensors.map fun (x : Sensor) => { x with watchdog := none })[a] = _
      rw [Fin.getElem_fin, Vector.getElem_map, hsensors]
      rfl
    · exact hreleased.blocks.trans (by rw [← hp])
    · exact hreleased.hold.trans (by rw [← hp])
    · exact hreleased.loop.trans (by rw [← hp])
    · exact hreleased.veh.trans (by rw [← hp])
    · exact hreleased.lines.trans (by rw [← hp])
    · exact hreleased.cfg.trans (by rw [← hp])
    · exact hreleased.store.trans (by rw [← hp])
    · have hslot : p.slot i = s.slot i := by rw [← hp]; rfl
      exact ((hreleased.inert i (by rw [hslot]; exact hi)).1).trans hslot

end Sys2Proof.Machine
end

section
/-! PROOFS. The battery measurement: the four start times, the supply state and the clamp (R103, R164,
R165). -/

namespace Sys2Proof.Machine

/-! ## The supply state by what has held -/

theorem heldLong_iff (now : Nat) (t : Option Nat) : heldLong now t = true ↔ Held now t := by
  cases t with
  | none => simp [heldLong, Held]
  | some t0 =>
    constructor
    · exact fun h => ⟨t0, rfl, of_decide_eq_true h⟩
    · rintro ⟨t1, h, hlong⟩
      cases h
      exact decide_eq_true hlong

theorem heldLong_false {now : Nat} {t : Option Nat} (h : ¬ Held now t) : heldLong now t = false :=
  Bool.eq_false_iff.mpr fun hl => h ((heldLong_iff now t).mp hl)

theorem heldLong_true {now : Nat} {t : Option Nat} (h : Held now t) : heldLong now t = true :=
  (heldLong_iff now t).mpr h

theorem not_held_none (now : Nat) : ¬ Held now none := fun ⟨_, h, _⟩ => nomatch h

section SupplyAfter
variable {now : Nat} {p : Supply}

theorem supplyAfter_exhausted (h : Held now p.belowExh) (hexh : ¬ Held now p.aboveExh)
    (hnormal : ¬ Held now p.aboveNormal) : supplyAfter now p = .exhausted := by
  by_cases hp : p.supply = .exhausted <;> simp [supplyAfter, hp, heldLong_true h, heldLong_false hexh, heldLong_false hnormal]

theorem supplyAfter_falls (hp : p.supply = .normal) (hexh : ¬ Held now p.belowExh)
    (h : Held now p.belowNormal) : supplyAfter now p = .reduced := by
  simp [supplyAfter, hp, heldLong_true h, heldLong_false hexh]

theorem supplyAfter_stays (hp : p.supply = .normal) (hexh : ¬ Held now p.belowExh)
    (h : ¬ Held now p.belowNormal) : supplyAfter now p = .normal := by
  simp [supplyAfter, hp, heldLong_false hexh, heldLong_false h]

theorem supplyAfter_normal (h : Held now p.aboveNormal) (hexh : ¬ Held now p.belowExh)
    (hnormal : ¬ Held now p.belowNormal) : supplyAfter now p = .normal := by
  by_cases hp : p.supply = .normal <;> simp [supplyAfter, hp, heldLong_true h, heldLong_false hexh, heldLong_false hnormal]

theorem supplyAfter_rises (hp : p.supply = .exhausted) (hnormal : ¬ Held now p.aboveNormal)
    (h : Held now p.aboveExh) : supplyAfter now p = .reduced := by
  simp [supplyAfter, hp, heldLong_true h, heldLong_false hnormal]

theorem supplyAfter_reduced (hp : p.supply = .reduced) (hexh : ¬ Held now p.belowExh)
    (hnormal : ¬ Held now p.aboveNormal) : supplyAfter now p = .reduced := by
  simp [supplyAfter, hp, heldLong_false hexh, heldLong_false hnormal]

theorem supplyAfter_lies (hp : p.supply = .exhausted) (hnormal : ¬ Held now p.aboveNormal)
    (h : ¬ Held now p.aboveExh) : supplyAfter now p = .exhausted := by
  simp [supplyAfter, hp, heldLong_false hnormal, heldLong_false h]

end SupplyAfter

/-! ## A change of the supply -/

theorem ceilingChange_eq (s : State) : ceilingChange s = { s with se := (ceilingChange s).se } := by
  unfold ceilingChange
  split
  · rfl
  · dsimp only
    split <;> rfl

/-- The Arbiter's part of a change of the supply: a run-on that is no longer in force ends (R91). -/
def runOnCut (new : SupplyState) (s : State) : Arbiter :=
  if new ≠ .normal ∧ s.arb.pump = .ready ∧ s.arb.runOnT.isSome then
    { s.arb with pump := .off, runOnT := none }
  else s.arb

theorem runOnCut_holder (new : SupplyState) (s : State) : (runOnCut new s).holder = s.arb.holder := by
  unfold runOnCut
  split <;> rfl

/-- The state a change of the supply hands to the Stroke Engine. -/
def supplied (new : SupplyState) (s : State) : State :=
  { s with sup := { s.sup with supply := new }, arb := runOnCut new s }

theorem changeSupply_falls {new : SupplyState} {s : State} (hnew : new ≠ s.sup.supply)
    (hold : s.sup.supply = .normal) : changeSupply new s = ceilingChange (supplied new s) := by
  unfold changeSupply supplied runOnCut
  rw [if_neg hnew]
  dsimp only
  rw [if_pos hold]
  split <;> rfl

/-- A change that is no fall from NORMAL at most computes the level of a stroke in STOPPING anew (R103). -/
theorem changeSupply_other {new : SupplyState} {s : State} (hnew : new ≠ s.sup.supply)
    (hold : s.sup.supply ≠ .normal) : changeSupply new s = supplied new s
      ∨ ∃ k, changeSupply new s = rampLevelNow k (supplied new s) := by
  have hsupplied : (if new ≠ .normal ∧ s.arb.pump = .ready ∧ s.arb.runOnT.isSome then
      { s with
        sup := { s.sup with supply := new }, arb := { s.arb with pump := .off, runOnT := none } }
      else { s with sup := { s.sup with supply := new } }) = supplied new s := by
    unfold supplied runOnCut
    split <;> rfl
  unfold changeSupply
  rw [if_neg hnew]
  dsimp only
  rw [if_neg hold, hsupplied]
  split
  · split
    · exact .inr ⟨_, rfl⟩
    · exact .inl rfl
  · exact .inl rfl

/-- A change of the supply changes the pump, the stroke and the drives, and no other part. -/
theorem changeSupply_eq {new : SupplyState} {s : State} (hnew : new ≠ s.sup.supply) :
    changeSupply new s = { s with
      sup := { s.sup with supply := new }, arb := runOnCut new s, se := (changeSupply new s).se } := by
  by_cases hold : s.sup.supply = .normal
  · rw [changeSupply_falls hnew hold, ceilingChange_eq]
    rfl
  · rcases changeSupply_other hnew hold with h | ⟨k, h⟩ <;> rw [h] <;> rfl

/-! ## The clamp (R103) -/

section Clamp
variable {s : State} {k : Stroke} (hk : s.se.stroke = some k)
include hk

theorem ceilingChange_driving (hp : k.phase = .driving) : (ceilingChange s).se =
    { drives := s.se.drives.set k.axis { s.se.drives[k.axis] with
        level := driveLevel (s.axisCfg k.axis) (clampedStroke s k) (s.lastPos k.axis) }
      stroke := some (clampedStroke s k) } := by
  unfold ceilingChange clampedStroke
  rw [hk]
  dsimp only
  rw [hp]
  rfl

theorem ceilingChange_latchWait (hp : k.phase = .latchWait) : (ceilingChange s).se = { s.se with
    stroke := some { k with
      vc := (s.axisCfg k.axis).creep
      expected := expectedTime (s.axisCfg k.axis) (s.axisCfg k.axis).creep k.ws k.we k.dist
      limit := timeLimit s.cfg.margin s.cfg.grace
        (expectedTime (s.axisCfg k.axis) (s.axisCfg k.axis).creep k.ws k.we k.dist) } } := by
  unfold ceilingChange
  rw [hk]
  dsimp only
  rw [hp]
  rfl

theorem ceilingChange_unclamped (hp : k.phase = .pumpWait ∨ k.phase = .settling) :
    ceilingChange s = s := by
  unfold ceilingChange
  rw [hk]
  dsimp only
  rcases hp with hp | hp <;> rw [hp]

end Clamp

/-! ## A measurement -/

/-- The line and the four start times after a measurement with the engine off. -/
def timed (b : Nat) (s : State) : State :=
  { s with lines := { s.lines with battery := b }, sup := measured s.clock b s.cfg s.sup }

theorem exec_measurement_running {b : Nat} {s : State} (h : engineRunning s = true) :
    exec (.batteryMeasurement b) s = .next { s with lines := { s.lines with battery := b } } := by
  have hrunning : engineRunning { s with lines := { s.lines with battery := b } } = true := h
  rw [exec_batteryMeasurement, takeMeasurement]
  dsimp only
  rw [if_pos hrunning]

/-- With the engine off a measurement leaves the supply state, or changes it and closes the event. -/
theorem exec_measurement_off {b : Nat} {s : State} (h : engineRunning s = false) :
    (supplyAfter s.clock (timed b s).sup = s.sup.supply
      ∧ exec (.batteryMeasurement b) s = .next (timed b s))
    ∨ (supplyAfter s.clock (timed b s).sup ≠ s.sup.supply
      ∧ exec (.batteryMeasurement b) s
        = .next (settle (changeSupply (supplyAfter s.clock (timed b s).sup) (timed b s)))) := by
  have hoff : ¬ engineRunning { s with lines := { s.lines with battery := b } } = true := by
    exact fun hr => nomatch h.symm.trans hr
  have hexec : exec (.batteryMeasurement b) s = .next
      (if supplyAfter s.clock (timed b s).sup = (timed b s).sup.supply then timed b s
      else settle (changeSupply (supplyAfter s.clock (timed b s).sup) (timed b s))) := by
    rw [exec_batteryMeasurement, takeMeasurement]
    dsimp only
    rw [if_neg hoff]
    rfl
  by_cases hsame : supplyAfter s.clock (timed b s).sup = s.sup.supply
  · exact .inl ⟨hsame, hexec.trans (congrArg _ (if_pos hsame))⟩
  · exact .inr ⟨hsame, hexec.trans (congrArg _ (if_neg hsame))⟩

/-- Settles O47: the supply state by `supplyAfter`, the clamp by `ceilingChange`. -/
theorem batteryMeasurementIsTimed : Obligations.BatteryMeasurementIsTimed := by
  intro b s
  refine ⟨exec_measurement_running, fun hoff => ?_⟩
  generalize hu : timed b s = u
  have hcases := exec_measurement_off (b := b) hoff
  rw [hu] at hcases
  have hsupplyU : u.sup.supply = s.sup.supply := by rw [← hu]; rfl
  have hbelowNormal : u.sup.belowNormal
      = if b < s.cfg.tn then some (s.sup.belowNormal.getD s.clock) else none := by
    rw [← hu]; exact if_congr decide_eq_true_iff rfl rfl
  have hbelowExh : u.sup.belowExh
      = if b < s.cfg.tx then some (s.sup.belowExh.getD s.clock) else none := by
    rw [← hu]; exact if_congr decide_eq_true_iff rfl rfl
  have haboveExh : u.sup.aboveExh
      = if s.cfg.tx + 4 ≤ b then some (s.sup.aboveExh.getD s.clock) else none := by
    rw [← hu]; exact if_congr decide_eq_true_iff rfl rfl
  have haboveNormal : u.sup.aboveNormal
      = if s.cfg.tn + 4 ≤ b then some (s.sup.aboveNormal.getD s.clock) else none := by
    rw [← hu]; exact if_congr decide_eq_true_iff rfl rfl
  obtain ⟨t, hexec, hrest⟩ : ∃ t, exec (.batteryMeasurement b) s = .next t
      ∧ (t.sup.supply = supplyAfter s.clock u.sup
        ∧ t.sup.belowNormal = u.sup.belowNormal ∧ t.sup.belowExh = u.sup.belowExh
        ∧ t.sup.aboveExh = u.sup.aboveExh ∧ t.sup.aboveNormal = u.sup.aboveNormal
        ∧ t.lines = u.lines ∧ t.sensors = u.sensors ∧ t.zt.blocks = u.zt.blocks ∧ t.loop = u.loop
        ∧ t.cfg = u.cfg ∧ InertKept u t)
      ∧ (t.sup.supply = s.sup.supply → t = u)
      ∧ (s.sup.supply = .normal → t.sup.supply ≠ .normal → ∀ i, s.arb.holder = some i →
          NoDriveOffEntry s → ∃ v, v.se = u.se ∧ v.cfg = u.cfg ∧ v.sensors = u.sensors
            ∧ t.se = (ceilingChange v).se) := by
    rcases hcases with ⟨hsame, hexec⟩ | ⟨hdiffers, hexec⟩
    · refine ⟨u, hexec, ⟨by rw [hsame, hsupplyU], rfl, rfl, rfl, rfl, rfl, rfl, rfl, rfl, rfl, .of_sm rfl⟩,
        fun _ => rfl, fun hn hfell => ?_⟩
      rw [hsupplyU] at hfell
      exact absurd hn hfell
    · generalize hnew : supplyAfter s.clock u.sup = new at hdiffers hexec
      have hchange : new ≠ u.sup.supply := by rw [hsupplyU]; exact hdiffers
      have hchanged := changeSupply_eq hchange
      have hfall (h : u.sup.supply = .normal) := changeSupply_falls hchange h
      generalize changeSupply new u = c at hexec hchanged hfall
      have hsettled := settle_settled c
      have hsupply : (settle c).sup.supply = new := by rw [hsettled.supply, hchanged]
      refine ⟨settle c, hexec, ⟨hsupply, ?_, ?_, ?_, ?_, ?_, ?_, ?_, ?_, ?_, ?_⟩, fun h => ?_,
        fun hn _ i hi hroad => ?_⟩
      · rw [hsettled.belowNormal, hchanged]
      · rw [hsettled.belowExh, hchanged]
      · rw [hsettled.aboveExh, hchanged]
      · rw [hsettled.aboveNormal, hchanged]
      · rw [hsettled.lines, hchanged]
      · rw [hsettled.sensors, hchanged]
      · rw [hsettled.blocks, hchanged]
      · rw [hsettled.loop, hchanged]
      · rw [hsettled.cfg, hchanged]
      · have hsm : c.sm = u.sm := by rw [hchanged]
        exact (InertKept.of_sm hsm).trans hsettled.inert
      · exact absurd (hsupply.symm.trans h) hdiffers
      · have hholder : c.arb.holder = some i := by
          rw [hchanged, runOnCut_holder, ← hu]
          exact hi
        have hnoEntry : NoDriveOffEntry c := by
          rw [hchanged, ← hu]
          exact hroad
        obtain ⟨-, -, hse, -⟩ := hsettled.steady (.inr ⟨i, hholder, .inr hnoEntry⟩)
        exact ⟨supplied new u, rfl, rfl, rfl, by rw [hse, hfall (hsupplyU.trans hn)]⟩
  obtain ⟨⟨hsupply, hbn, hbe, hae, han, hlines, hsensors, hblocks, hloop, hcfg, hinert⟩, hsame, hclamp⟩ :=
    hrest
  refine ⟨t, hexec, ?_, hbn.trans hbelowNormal, hbe.trans hbelowExh, hae.trans haboveExh,
    han.trans haboveNormal, fun hle t0 ht hlong => ?_, fun hn hexh hlow => ?_, fun hn hexh hlow => ?_,
    fun hle hhigh => ?_, fun he hhigh hover => ?_, fun hr hexh hhigh => ?_, fun he hhigh hover => ?_,
    fun k hn hfell hk hholder hroad => ?_, fun h => ?_, ?_, ?_, ?_, ?_, fun i hi => ?_⟩
  · rw [hlines, ← hu]; rfl
  · rw [hbe] at ht
    rw [hsupply]
    have hlow : b < s.cfg.tx := by
      by_contra hb
      rw [hbelowExh, if_neg hb] at ht
      exact nomatch ht
    refine supplyAfter_exhausted ⟨t0, ht, hlong⟩ ?_ ?_
    · rw [haboveExh, if_neg (by omega)]; exact not_held_none _
    · rw [haboveNormal, if_neg (by omega)]; exact not_held_none _
  · rw [hbe] at hexh
    rw [hbn] at hlow
    rw [hsupply]
    exact supplyAfter_falls (hsupplyU.trans hn) hexh hlow
  · rw [hbe] at hexh
    rw [hbn] at hlow
    rw [hsupply]
    exact supplyAfter_stays (hsupplyU.trans hn) hexh hlow
  · rw [han] at hhigh
    rw [hsupply]
    have hb : s.cfg.tn + 4 ≤ b := by
      by_contra hb
      rw [haboveNormal, if_neg hb] at hhigh
      exact not_held_none _ hhigh
    refine supplyAfter_normal hhigh ?_ ?_
    · rw [hbelowExh, if_neg (by omega)]; exact not_held_none _
    · rw [hbelowNormal, if_neg (by omega)]; exact not_held_none _
  · rw [han] at hhigh
    rw [hae] at hover
    rw [hsupply]
    exact supplyAfter_rises (hsupplyU.trans he) hhigh hover
  · rw [hbe] at hexh
    rw [han] at hhigh
    rw [hsupply]
    exact supplyAfter_reduced (hsupplyU.trans hr) hexh hhigh
  · rw [han] at hhigh
    rw [hae] at hover
    rw [hsupply]
    exact supplyAfter_lies (hsupplyU.trans he) hhigh hover
  · obtain ⟨v, hse, hcfgV, hsensorsV, ht⟩ := hclamp hn hfell k.slot hholder hroad
    have huse : u.se = s.se := by rw [← hu]; rfl
    have hucfg : u.cfg = s.cfg := by rw [← hu]; rfl
    have husensors : u.sensors = s.sensors := by rw [← hu]; rfl
    have hvk : v.se.stroke = some k := by rw [hse, huse]; exact hk
    have haxis : v.axisCfg = s.axisCfg := by funext a; rw [State.axisCfg, State.axisCfg, hcfgV, hucfg]
    have hlast : v.lastPos = s.lastPos := by
      funext a; rw [State.lastPos, State.lastPos, hsensorsV, husensors]
    have hclamped : clampedStroke v k = clampedStroke s k := by
      simp only [clampedStroke, haxis, hlast, hcfgV, hucfg]
    refine ⟨fun hp => ?_, fun hp => ?_, fun hp => ?_⟩
    · rw [ht, ceilingChange_driving hvk hp, hclamped, haxis, hlast, hse, huse]
    · rw [ht, ceilingChange_latchWait hvk hp, hse, huse, haxis, hcfgV, hucfg]
      exact ⟨rfl, _, rfl, rfl⟩
    · rw [ht, ceilingChange_unclamped hvk hp, hse, huse]
  · rw [hbn, hbe, hae, han, hsame h, ← hu]
    rfl
  · rw [hsensors, ← hu]; rfl
  · rw [hblocks, ← hu]; rfl
  · rw [hloop, ← hu]; rfl
  · rw [hcfg, ← hu]; rfl
  · have hslot : u.slot i = s.slot i := by rw [← hu]; rfl
    exact ((hinert i (by rw [hslot]; exact hi)).1).trans hslot

end Sys2Proof.Machine
end

section
/-! PROOFS. Intent and the warning states (R70, R71, R117 to R122), zone by zone, and where the closing of a
command derives them. -/

namespace Sys2Proof.Machine

/-! ## Intent reads neither the warning states nor itself -/

theorem givesIntent_iff (s : State) (z : ZoneId) (x : Slot) : givesIntent s z x = true
    ↔ ∃ (st : Step) (a : AxisId), x.state = .queued ∧ x.curStep = some st ∧ st.action = .move
      ∧ x.curAxis = some a ∧ s.axisZone a = some z ∧ motionReason s x st a = none := by
  unfold givesIntent
  cases hst : x.curStep with
  | none => simp
  | some st =>
    cases ha : x.curAxis with
    | none => simp
    | some a => simp [and_assoc]

theorem mem_allSlots (i : SlotId) : i ∈ allSlots := (by decide : ∀ i : SlotId, i ∈ allSlots) i

theorem intentNow_iff (s : State) (z : ZoneId) : intentNow s z = true
    ↔ ∃ (i : SlotId) (st : Step) (a : AxisId), (s.slot i).state = .queued ∧ (s.slot i).curStep = some st
      ∧ st.action = .move ∧ (s.slot i).curAxis = some a ∧ s.axisZone a = some z
      ∧ motionReason s (s.slot i) st a = none := by
  unfold intentNow
  rw [List.any_eq_true]
  constructor
  · rintro ⟨i, -, h⟩
    exact ⟨i, (givesIntent_iff s z _).mp h⟩
  · rintro ⟨i, h⟩
    exact ⟨i, mem_allSlots i, (givesIntent_iff s z _).mpr h⟩

theorem IntentOnly.intentNow {s t : State} (h : IntentOnly s t) (z : ZoneId) :
    intentNow t z = intentNow s z := by rw [h]; rfl

theorem IntentOnly.hasStroke {s t : State} (h : IntentOnly s t) (z : ZoneId) :
    hasStroke t z = hasStroke s z := by rw [h]; rfl

/-! ## One zone -/

/-- The warning record of a zone whose pre-warn time has passed (R119). -/
def warnPassed (s : State) (z : ZoneId) : Warn :=
  if someLampOk s z then { state := .warned, preWarnT := none, runOut := false }
  else { state := .warning, preWarnT := none, runOut := true }

/-- The warning record of a zone after an intent start (R118). -/
def warnStarted (s : State) (z : ZoneId) : Warn :=
  if s.bu.warns[z].state = .quiet then
    if s.cfg.zones[z].preWarn = 0 then warnPassed s z
    else { state := .warning, preWarnT := some s.cfg.zones[z].preWarn, runOut := false }
  else s.bu.warns[z]

/-- The warning record of a zone once its intent is derived (R71, R118, R122). -/
def warnDerived (s : State) (z : ZoneId) : Warn :=
  if intentNow s z then if s.zt.intent[z] then s.bu.warns[z] else warnStarted s z
  else if s.bu.warns[z].state ≠ .quiet ∧ hasStroke s z = false then
    { state := .quiet, preWarnT := none, runOut := false }
  else s.bu.warns[z]

theorem modWarn_self (z : ZoneId) (f : Warn → Warn) (s : State) :
    (modWarn z f s).bu.warns[z] = f s.bu.warns[z] := upd_same _ _ _

theorem modWarn_ne {z y : ZoneId} (h : y ≠ z) (f : Warn → Warn) (s : State) :
    (modWarn z f s).bu.warns[y] = s.bu.warns[y] := upd_ne _ _ (Ne.symm h)

theorem preWarnPassed_eq (z : ZoneId) (s : State) : preWarnPassed z s
    = modWarn z (fun _ => warnPassed s z) s := by
  unfold preWarnPassed warnPassed
  split <;> rfl

theorem intentStart_eq (z : ZoneId) (s : State) : intentStart z s
    = if s.bu.warns[z].state = .quiet then modWarn z (fun _ => warnStarted s z) s else s := by
  unfold intentStart warnStarted
  split
  · split
    · rw [preWarnPassed_eq]
    · rfl
  · rfl

theorem intentStart_self (z : ZoneId) (s : State) : (intentStart z s).bu.warns[z] = warnStarted s z := by
  rw [intentStart_eq]
  by_cases h : s.bu.warns[z].state = .quiet
  · rw [if_pos h]
    exact modWarn_self _ _ _
  · rw [if_neg h]
    exact (if_neg h).symm

theorem intentStart_ne {z y : ZoneId} (h : y ≠ z) (s : State) :
    (intentStart z s).bu.warns[y] = s.bu.warns[y] := by
  rw [intentStart_eq]
  split
  · exact modWarn_ne h _ _
  · rfl

theorem intentStart_zt (z : ZoneId) (s : State) : (intentStart z s).zt = s.zt := by
  rw [intentStart_eq]
  split <;> rfl

theorem quietJudge_ne {z y : ZoneId} (h : y ≠ z) (s : State) :
    (quietJudge z s).bu.warns[y] = s.bu.warns[y] := by
  unfold quietJudge
  split
  · exact modWarn_ne h _ _
  · rfl

theorem quietJudge_zt (z : ZoneId) (s : State) : (quietJudge z s).zt = s.zt := by
  unfold quietJudge
  split <;> rfl

/-- The state with one zone's intent as it is now. -/
def intentSet (s : State) (z : ZoneId) : State :=
  { s with zt := { s.zt with intent := upd s.zt.intent z fun _ => intentNow s z } }

/-- The state in which a zone's return to QUIET is judged. -/
def intentTold (s : State) (z : ZoneId) : State :=
  if intentNow s z && !s.zt.intent[z] then intentStart z (intentSet s z) else intentSet s z

theorem deriveIntent1_eq (s : State) (z : ZoneId) : deriveIntent1 s z = quietJudge z (intentTold s z) := rfl

theorem intentTold_zt (s : State) (z : ZoneId) : (intentTold s z).zt = (intentSet s z).zt := by
  unfold intentTold
  split
  · exact intentStart_zt z _
  · rfl

theorem intentTold_intent (s : State) (z : ZoneId) : (intentTold s z).zt.intent[z] = intentNow s z := by
  rw [intentTold_zt]
  exact upd_same _ _ _

theorem intentTold_ne {y z : ZoneId} (h : y ≠ z) (s : State) :
    (intentTold s z).bu.warns[y] = s.bu.warns[y] := by
  unfold intentTold
  split
  · exact intentStart_ne h _
  · rfl

theorem deriveIntent1_ne {y z : ZoneId} (h : y ≠ z) (s : State) :
    (deriveIntent1 s z).bu.warns[y] = s.bu.warns[y]
      ∧ (deriveIntent1 s z).zt.intent[y] = s.zt.intent[y] := by
  rw [deriveIntent1_eq, quietJudge_ne h, quietJudge_zt, intentTold_zt]
  exact ⟨intentTold_ne h s, upd_ne _ _ (Ne.symm h)⟩

theorem deriveIntent1_intent (s : State) (z : ZoneId) :
    (deriveIntent1 s z).zt.intent[z] = intentNow s z := by
  rw [deriveIntent1_eq, quietJudge_zt]
  exact intentTold_intent s z

theorem deriveIntent1_warn (s : State) (z : ZoneId) :
    (deriveIntent1 s z).bu.warns[z] = warnDerived s z := by
  have hintent := intentTold_intent s z
  rw [deriveIntent1_eq, warnDerived, quietJudge, hintent]
  cases hi : intentNow s z with
  | true =>
    rw [if_neg fun h => absurd h.2.1 nofun, if_pos rfl]
    cases hold : s.zt.intent[z] with
    | true =>
      have htold : intentTold s z = intentSet s z := by rw [intentTold, hi, hold]; rfl
      rw [htold]
      rfl
    | false =>
      have htold : intentTold s z = intentStart z (intentSet s z) := by rw [intentTold, hi, hold]; rfl
      rw [htold]
      exact intentStart_self z _
  | false =>
    have htold : intentTold s z = intentSet s z := by rw [intentTold, hi]; rfl
    have hstroke : hasStroke (intentSet s z) z = hasStroke s z := rfl
    have hwarns : (intentSet s z).bu.warns[z] = s.bu.warns[z] := rfl
    rw [htold, hstroke, hwarns, if_neg Bool.false_ne_true]
    by_cases hq : s.bu.warns[z].state ≠ .quiet ∧ hasStroke s z = false
    · rw [if_pos ⟨hq.1, rfl, hq.2⟩, if_pos hq]
      exact modWarn_self _ _ _
    · rw [if_neg fun h => hq ⟨h.1, h.2.2⟩, if_neg hq]
      exact hwarns

/-! ## Every zone -/

theorem warnDerived_congr {s t : State} (h : IntentOnly s t) {z : ZoneId}
    (hw : t.bu.warns[z] = s.bu.warns[z]) (hi : t.zt.intent[z] = s.zt.intent[z]) :
    warnDerived t z = warnDerived s z := by
  have hcfg : t.cfg = s.cfg := by rw [h]
  have hlamps : someLampOk t z = someLampOk s z := by rw [h]; rfl
  simp only [warnDerived, warnStarted, warnPassed, h.intentNow, h.hasStroke, hw, hi, hcfg, hlamps]

theorem foldl_deriveIntent1 (l : List ZoneId) (hl : l.Nodup) (s : State) {z : ZoneId} :
    (z ∉ l → (l.foldl deriveIntent1 s).bu.warns[z] = s.bu.warns[z]
      ∧ (l.foldl deriveIntent1 s).zt.intent[z] = s.zt.intent[z])
    ∧ (z ∈ l → (l.foldl deriveIntent1 s).bu.warns[z] = warnDerived s z
      ∧ (l.foldl deriveIntent1 s).zt.intent[z] = intentNow s z) := by
  induction l generalizing s with
  | nil => exact ⟨fun _ => ⟨rfl, rfl⟩, nofun⟩
  | cons y l ih =>
    obtain ⟨hy, hnodup⟩ := List.nodup_cons.mp hl
    obtain ⟨hout, hin⟩ := ih hnodup (deriveIntent1 s y)
    have honly := deriveIntent1_only s y
    rw [List.foldl_cons]
    refine ⟨fun hz => ?_, fun hz => ?_⟩
    · obtain ⟨hne, hz⟩ := not_or.mp (fun h => hz (List.mem_cons.mpr h))
      obtain ⟨hw, hi⟩ := deriveIntent1_ne hne s
      rw [(hout hz).1, (hout hz).2]
      exact ⟨hw, hi⟩
    · by_cases hzy : z = y
      · subst hzy
        rw [(hout hy).1, (hout hy).2]
        exact ⟨deriveIntent1_warn s z, deriveIntent1_intent s z⟩
      · obtain ⟨hw, hi⟩ := deriveIntent1_ne hzy s
        have hmem := hin ((List.mem_cons.mp hz).resolve_left hzy)
        rw [hmem.1, hmem.2]
        exact ⟨warnDerived_congr honly hw hi, honly.intentNow z⟩

theorem mem_allZones (z : ZoneId) : z ∈ allZones := (by decide : ∀ z : ZoneId, z ∈ allZones) z

theorem deriveIntent_warn (s : State) (z : ZoneId) : (deriveIntent s).bu.warns[z] = warnDerived s z := by
  unfold deriveIntent
  exact ((foldl_deriveIntent1 allZones (by decide) s).2 (mem_allZones z)).1

theorem deriveIntent_intent (s : State) (z : ZoneId) : (deriveIntent s).zt.intent[z] = intentNow s z := by
  unfold deriveIntent
  exact ((foldl_deriveIntent1 allZones (by decide) s).2 (mem_allZones z)).2

/-! ## Intent at the end of a command -/

/-- The grant rule ends with a derivation of intent (R71, R76). -/
theorem grantLoop_ends (n : Nat) (s : State) : ∃ u, grantLoop n s = deriveIntent u := by
  induction n generalizing s with
  | zero => exact ⟨s, rfl⟩
  | succ n ih =>
    rw [grantLoop_succ, grantOnce]
    split
    · exact ih _
    · exact ⟨s, rfl⟩

theorem settle_ends (s : State) : ∃ u, ShownOnly (deriveIntent u) (settle s) := by
  obtain ⟨u, hu⟩ := grantLoop_ends grantBound (judgeDriveOff (judgeDriveOff s))
  refine ⟨u, ?_⟩
  unfold settle
  rw [hu]
  exact (ShownOnly.showAll _).trans (.sendNext _)

/-- While a slot holds the grant and Drive-Off is not entered, the closing derives intent once. -/
theorem settle_held {s : State} {h : SlotId} (hh : s.arb.holder = some h) (hn : NoDriveOffEntry s) :
    ∃ b, ShownOnly (deriveIntent (withDriveOff b s)) (settle s) := by
  obtain ⟨b, hb⟩ := settle_shown hn
  have hno : NoGrant (withDriveOff b s) :=
    .inl (by rw [show (withDriveOff b s).arb.holder = some h from hh]; exact nofun)
  rw [grantLoop_noGrant hno] at hb
  exact ⟨b, hb⟩

theorem warnDerived_withDriveOff (b : Bool) (s : State) (z : ZoneId) :
    warnDerived (withDriveOff b s) z = warnDerived s z := by
  have hintent : intentNow (withDriveOff b s) z = intentNow s z := rfl
  have hstroke : hasStroke (withDriveOff b s) z = hasStroke s z := rfl
  have hlamps : someLampOk (withDriveOff b s) z = someLampOk s z := rfl
  simp only [warnDerived, warnStarted, warnPassed, hintent, hstroke, hlamps]
  rfl

theorem settle_held_warn {s : State} {h : SlotId} (hh : s.arb.holder = some h) (hn : NoDriveOffEntry s)
    (z : ZoneId) : (settle s).bu.warns[z] = warnDerived s z := by
  obtain ⟨b, hb⟩ := settle_held hh hn
  rw [hb.warns, deriveIntent_warn, warnDerived_withDriveOff]

end Sys2Proof.Machine
end

section
/-! PROOFS. The pre-warn time (R119) and the lamp readings (R120, R127). -/

namespace Sys2Proof.Machine

/-! ## The warning state of a zone -/

theorem mem_allBeacons (b : BeaconId) : b ∈ allBeacons := (by decide : ∀ b : BeaconId, b ∈ allBeacons) b

theorem someLampOk_iff (s : State) (z : ZoneId) : someLampOk s z = true
    ↔ ∃ b : BeaconId, maskHas s.cfg.beacons[b].mask z = true ∧ s.bu.beacons[b].lamp = .ok := by
  unfold someLampOk
  rw [List.any_eq_true]
  constructor
  · rintro ⟨b, -, h⟩
    rw [Bool.and_eq_true, beq_iff_eq] at h
    exact ⟨b, h⟩
  · rintro ⟨b, hm, hl⟩
    exact ⟨b, mem_allBeacons b, by rw [hm, hl]; rfl⟩

section Warn
variable {s : State} {z : ZoneId}

theorem warnPassed_ok (h : ∃ b : BeaconId, maskHas s.cfg.beacons[b].mask z = true
    ∧ s.bu.beacons[b].lamp = .ok) :
    warnPassed s z = { state := .warned, preWarnT := none, runOut := false } := by
  rw [warnPassed, if_pos ((someLampOk_iff s z).mpr h)]

theorem warnPassed_failed (h : ∀ b : BeaconId, maskHas s.cfg.beacons[b].mask z = true →
    s.bu.beacons[b].lamp = .failed) :
    warnPassed s z = { state := .warning, preWarnT := none, runOut := true } := by
  rw [warnPassed, if_neg]
  intro hok
  obtain ⟨b, hm, hl⟩ := (someLampOk_iff s z).mp hok
  exact nomatch hl.symm.trans (h b hm)

theorem warnPassed_state : (warnPassed s z).state ≠ .quiet := by
  unfold warnPassed
  split <;> exact nofun

theorem warnStarted_loud (h : s.bu.warns[z].state ≠ .quiet) : warnStarted s z = s.bu.warns[z] := if_neg h

/-- A zone that is not QUIET keeps its warning state while it has intent or a stroke (R118, R122). -/
theorem warnDerived_kept (hw : s.bu.warns[z].state ≠ .quiet)
    (h : intentNow s z = true ∨ hasStroke s z = true) : warnDerived s z = s.bu.warns[z] := by
  rw [warnDerived, warnStarted_loud hw, ite_self]
  cases hi : intentNow s z with
  | true => rfl
  | false =>
    have hs := h.resolve_left (by rw [hi]; exact nofun)
    rw [if_neg Bool.false_ne_true, if_neg (by rw [hs]; exact fun h => nomatch h.2)]

end Warn

/-! ## The eligible slot once its zone is WARNED -/

/-- Eligibility reads of the warning states that of the slot's zone alone (R75). -/
theorem IntentOnly.eligible {s t : State} (h : IntentOnly s t) {i : SlotId} {z : ZoneId} {a : AxisId}
    (ha : (s.slot i).curAxis = some a) (hz : s.axisZone a = some z) (hw : t.bu.warns[z] = s.bu.warns[z])
    (he : eligible s i = true) : Machine.eligible t i = true := by
  obtain ⟨hq, hb⟩ := (eligible_iff s i).mp he
  obtain ⟨st, a', hst, ha', hmotion, hwarn⟩ := (blockReason_eq_none s _).mp hb
  obtain rfl : a' = a := Option.some.inj (ha'.symm.trans ha)
  obtain ⟨y, hy, hwarned, hout⟩ := (warnReason_eq_none s a').mp hwarn
  obtain rfl : y = z := Option.some.inj (hy.symm.trans hz)
  have hslot : t.slot i = s.slot i := by rw [h]; rfl
  have hmotion' : motionReason t (s.slot i) st a' = motionReason s (s.slot i) st a' := by rw [h]; rfl
  have hzone : t.axisZone a' = s.axisZone a' := by rw [h]; rfl
  refine (eligible_iff t i).mpr ⟨by rw [hslot]; exact hq, (blockReason_eq_none t _).mpr ?_⟩
  rw [hslot]
  refine ⟨st, a', hst, ha', hmotion'.trans hmotion, (warnReason_eq_none t a').mpr ⟨y, ?_, ?_, ?_⟩⟩
  · rw [hzone]; exact hy
  · rw [hw]; exact hwarned
  · rw [hw]; exact hout

theorem intentNow_of_eligible {s : State} {i : SlotId} {z : ZoneId} {a : AxisId} {st : Step}
    (he : eligible s i = true) (hst : (s.slot i).curStep = some st) (hm : st.action = .move)
    (ha : (s.slot i).curAxis = some a) (hz : s.axisZone a = some z) : intentNow s z = true := by
  obtain ⟨hq, hb⟩ := (eligible_iff s i).mp he
  obtain ⟨st', a', hst', ha', hmotion, -⟩ := (blockReason_eq_none s _).mp hb
  obtain rfl : st' = st := Option.some.inj (hst'.symm.trans hst)
  obtain rfl : a' = a := Option.some.inj (ha'.symm.trans ha)
  exact (intentNow_iff s z).mpr ⟨i, st', a', hq, hst, hm, ha, hz, hmotion⟩

/-- The one slot that waits is chosen. -/
theorem grantChoice_only {s : State} {i : SlotId} (hh : s.arb.holder = none) (hq : s.sm.queue = [i])
    (he : eligible s i = true) : grantChoice s = some i := by
  obtain ⟨j, hj⟩ := grantChoice_isSome hh (by rw [hq]; exact List.mem_singleton_self i) he
  obtain ⟨-, -, front, back, hqueue, -⟩ := firstOfClass_eq_some (firstOfClass_of_grantChoice hj).1
  have hmem : j ∈ s.sm.queue := by rw [hqueue]; simp
  rw [hq, List.mem_singleton] at hmem
  rw [hj, hmem]

theorem granted_sm_congr {s t : State} {i : SlotId} (k : Stroke) (h : t.sm = s.sm) :
    (granted i k t).sm = (granted i k s).sm := by
  simp only [granted, leaveQueue, modSlot, setQueue, setStroke, h]

/-- Another state with the same slots, grant, strokes, record, sensors and warning states of a zone: what the
grant of a slot in that zone reads. -/
structure SameForGrant (z : ZoneId) (s t : State) : Prop where
  sm : t.sm = s.sm
  arb : t.arb = s.arb
  se : t.se = s.se
  cfg : t.cfg = s.cfg
  sensors : t.sensors = s.sensors
  warns : t.bu.warns[z] = s.bu.warns[z]

theorem IntentOnly.sameForGrant {s t : State} (h : IntentOnly s t) {z : ZoneId}
    (hw : t.bu.warns[z] = s.bu.warns[z]) : SameForGrant z s t where
  sm := by rw [h]
  arb := by rw [h]
  se := by rw [h]
  cfg := by rw [h]
  sensors := by rw [h]
  warns := hw

theorem SameForGrant.withDriveOff {z : ZoneId} {s t : State} (h : SameForGrant z s t) (b : Bool) :
    SameForGrant z s (withDriveOff b t) :=
  ⟨h.sm, h.arb, h.se, h.cfg, h.sensors, h.warns⟩

/-- The grant of a step beyond Tb with the pump OFF, in terms of the state it starts from. -/
theorem SameForGrant.grant_off {z : ZoneId} {w d : State} (h : SameForGrant z w d) {i : SlotId} {st : Step}
    {a : AxisId} (hst : (w.slot i).curStep = some st) (ha : (w.slot i).curAxis = some a)
    (hz : w.axisZone a = some z) (hp : w.arb.pump = .off)
    (hfar : (w.axisCfg a).tb < gapOf st.target (w.lastPos a)) :
    (grant i d).sm = (granted i (freshStroke i (w.slot i).step a) w).sm
      ∧ (grant i d).arb
        = { w.arb with holder := some i, pump := .starting, startT := some w.cfg.startLimit }
      ∧ (grant i d).se = { w.se with stroke := some (freshStroke i (w.slot i).step a) }
      ∧ (grant i d).bu.warns[z] = w.bu.warns[z]
      ∧ hasStroke (grant i d) z = true := by
  have hself : d.slot i = w.slot i := slot_congr (congrArg SeqManager.slots h.sm) i
  have haxis : d.axisCfg = w.axisCfg := by funext a; rw [State.axisCfg, State.axisCfg, h.cfg]
  have hgrant : grant i d = { granted i (freshStroke i (w.slot i).step a) d with
      arb := { w.arb with holder := some i, pump := .starting, startT := some w.cfg.startLimit } } := by
    rw [grant_far_idle (st := st) (a := a) (by rw [hself]; exact hst) (by rw [hself]; exact ha)
      (by rw [haxis, State.lastPos, h.sensors]; exact hfar) (by rw [h.arb, hp]; exact nofun),
      h.arb, h.cfg, hself, if_pos hp]
  have hslot : (grant i d).slot i = { w.slot i with state := .active, interrupted := false } := by
    rw [hgrant, ← hself]
    exact granted_slot (s := d) (i := i) (freshStroke i (d.slot i).step a)
  have hholder : (grant i d).arb.holder = some i := by rw [hgrant]
  have hzone : (grant i d).axisZone a = some z := by
    have hgcfg : (grant i d).cfg = w.cfg := by rw [hgrant]; exact h.cfg
    rw [← hz, State.axisZone, State.axisZone, State.axisCfg, State.axisCfg, hgcfg]
  refine ⟨?_, ?_, ?_, ?_, ?_⟩
  · rw [hgrant]
    exact granted_sm_congr _ h.sm
  · rw [hgrant]
  · rw [hgrant, ← h.se]
    rfl
  · rw [hgrant, ← h.warns]
    rfl
  · unfold hasStroke
    rw [hholder]
    dsimp only
    rw [hslot, show Slot.curAxis { w.slot i with state := .active, interrupted := false } = some a from ha]
    dsimp only
    rw [hzone]
    simp

/-- With the grant free and one slot waiting, eligible in a zone that is WARNED, the slot is granted in the
event, and the zone stays WARNED (R76, R122). -/
theorem settle_grant_only {w : State} {i : SlotId} {st : Step} {a : AxisId} {z : ZoneId}
    (hh : w.arb.holder = none) (hq : w.sm.queue = [i]) (he : eligible w i = true)
    (hst : (w.slot i).curStep = some st) (hm : st.action = .move) (ha : (w.slot i).curAxis = some a)
    (hz : w.axisZone a = some z) (hw : w.bu.warns[z].state = .warned) (hp : w.arb.pump = .off)
    (hfar : (w.axisCfg a).tb < gapOf st.target (w.lastPos a)) :
    (settle w).bu.warns[z] = w.bu.warns[z]
      ∧ (settle w).sm = (granted i (freshStroke i (w.slot i).step a) w).sm
      ∧ (settle w).arb
        = { w.arb with holder := some i, pump := .starting, startT := some w.cfg.startLimit }
      ∧ (settle w).se = { w.se with stroke := some (freshStroke i (w.slot i).step a) } := by
  have hloud : w.bu.warns[z].state ≠ .quiet := by rw [hw]; exact nofun
  have hderived : (deriveIntent w).bu.warns[z] = w.bu.warns[z] := by
    rw [deriveIntent_warn, warnDerived_kept hloud (.inl (intentNow_of_eligible he hst hm ha hz))]
  have honly := deriveIntent_only w
  have heligible := honly.eligible ha hz hderived he
  have hsame := honly.sameForGrant hderived
  have hchoice : grantChoice (deriveIntent w) = some i :=
    grantChoice_only (by rw [hsame.arb]; exact hh) (by rw [hsame.sm]; exact hq) heligible
  have hgrant (b : Bool) := (hsame.withDriveOff b).grant_off hst ha hz hp hfar
  obtain ⟨b, hshown⟩ := settle_granted hchoice fun b => by rw [(hgrant b).2.1]
  obtain ⟨hsm, harb, hse, hwarns, hstroke⟩ := hgrant b
  generalize grant i (withDriveOff b (deriveIntent w)) = g at hshown hsm harb hse hwarns hstroke
  obtain ⟨hcsm, hcarb, hcse, -⟩ := (deriveIntent_only g).core.trans hshown.core
  refine ⟨?_, hcsm.trans hsm, hcarb.trans harb, hcse.trans hse⟩
  rw [hshown.warns, deriveIntent_warn, warnDerived_kept (by rw [hwarns]; exact hloud) (.inr hstroke), hwarns]

/-- Settles O40: the derivation of intent zone by zone (`deriveIntent_warn`), and the end of the pre-warn
time with the grant held (`settle_held_warn`) and free (`settle_grant_only`). -/
theorem preWarnExpiryWarnsTheZone : Obligations.PreWarnExpiryWarnsTheZone := by
  intro z s
  have hset : preWarnPassed z s = modWarn z (fun _ => warnPassed s z) s := preWarnPassed_eq z s
  refine ⟨intentNow_iff s z, deriveIntent_intent s z, fun hnew hold hq => ⟨fun ht => ?_, fun ht => ?_⟩,
    fun hnew hold => ?_, fun hnew hs hq => ?_, fun hnew hs => ?_, ?_, fun hd => ?_, fun hd => ⟨?_, ?_⟩⟩
  · rw [deriveIntent_warn, warnDerived, if_pos hnew, hold, if_neg Bool.false_ne_true, warnStarted, if_pos hq,
      if_neg ht]
  · rw [deriveIntent_warn, warnDerived, if_pos hnew, hold, if_neg Bool.false_ne_true, warnStarted, if_pos hq,
      if_pos ht, hset, modWarn_self]
  · rw [deriveIntent_warn, warnDerived, if_pos hnew]
    rcases hold with hold | hold
    · rw [if_pos hold]
    · rw [warnStarted_loud hold, ite_self]
  · rw [deriveIntent_warn, warnDerived, hnew, if_neg Bool.false_ne_true, if_pos ⟨hq, hs⟩]
  · rw [deriveIntent_warn, warnDerived, hnew, if_neg Bool.false_ne_true,
      if_neg (by rw [hs]; exact fun h => nomatch h.2)]
  · obtain ⟨u, hu⟩ := settle_ends s
    rw [hu.intentNow, hu.zt, deriveIntent_intent, (deriveIntent_only u).intentNow]
  · rw [exec_preWarnTimerExpiry, if_neg (by rw [due_iff]; exact hd)]
  · intro i st a hh hoff hroad hq hlamp hst hm ha hz he hp hfar
    have hexec : exec (.preWarnTimerExpiry z) s = .next (settle (preWarnPassed z s)) := by
      rw [exec_preWarnTimerExpiry, if_pos (by rw [due_iff]; exact hd)]
    rw [hset, warnPassed_ok hlamp] at hexec
    generalize hw : modWarn z (fun _ => { state := .warned, preWarnT := none, runOut := false }) s = w
      at hexec he
    have hwz : w.bu.warns[z] = { state := .warned, preWarnT := none, runOut := false } := by
      rw [← hw]; exact modWarn_self _ _ _
    have hkept : Keeps s w := by rw [← hw]; constructor <;> intros <;> rfl
    have hwsm : w.sm = s.sm := by rw [← hw, modWarn_sm]
    have hwarb : w.arb = s.arb := by rw [← hw, modWarn_arb]
    have hwse : w.se = s.se := by rw [← hw, modWarn_se]
    have hslot : w.slot i = s.slot i := slot_congr (congrArg SeqManager.slots hwsm) i
    have haxis : w.axisCfg = s.axisCfg := by funext a; rw [State.axisCfg, State.axisCfg, hkept.cfg]
    obtain ⟨hwarn, hsm, harb, hse⟩ := settle_grant_only (w := w) (st := st) (z := z)
      (by rw [hwarb]; exact hh) (by rw [hwsm]; exact hq) he (by rw [hslot]; exact hst) hm
      (by rw [hslot]; exact ha) (by rw [State.axisZone, haxis]; exact hz) (by rw [hwz]) (by rw [hwarb]; exact hp)
      (by rw [haxis, State.lastPos, hkept.sensors]; exact hfar)
    refine ⟨settle w, hexec, hkept.trans (settle_settled w).toKeeps, hwarn.trans hwz, ?_, ?_,
      fun j hj => ?_, ?_, ?_⟩
    · rw [slot_congr (congrArg SeqManager.slots hsm) i, granted_slot, hslot]
    · rw [hsm, granted_queue, hwsm, hq]
      simp
    · rw [slot_congr (congrArg SeqManager.slots hsm) j, granted_slot_ne _ hj,
        slot_congr (congrArg SeqManager.slots hwsm) j]
    · rw [harb, hwarb, hkept.cfg]
    · rw [hse, hwse, hslot]
  · intro h hh hn hnew
    have hexec : exec (.preWarnTimerExpiry z) s = .next (settle (preWarnPassed z s)) := by
      rw [exec_preWarnTimerExpiry, if_pos (by rw [due_iff]; exact hd)]
    rw [hset] at hexec
    generalize hw : modWarn z (fun _ => warnPassed s z) s = w at hexec
    have hwz : w.bu.warns[z] = warnPassed s z := by rw [← hw]; exact modWarn_self _ _ _
    have hkept : Keeps s w := by rw [← hw]; constructor <;> intros <;> rfl
    have hholder : w.arb.holder = some h := by rw [← hw]; exact hh
    have hentry : NoDriveOffEntry w := by rw [← hw]; exact hn
    have hintent : intentNow w z = true := by rw [← hw]; exact hnew
    have hsettled := settle_settled w
    have hwarn : (settle w).bu.warns[z] = warnPassed s z := by
      rw [settle_held_warn hholder hentry, warnDerived_kept (by rw [hwz]; exact warnPassed_state) (.inl hintent),
        hwz]
    obtain ⟨hsm, harb, hse, -⟩ := hsettled.steady (.inr ⟨h, hholder, .inr hentry⟩)
    refine ⟨settle w, hexec, fun hl => ?_, fun hl => ?_, ?_, ?_, ?_, hkept.trans hsettled.toKeeps⟩
    · rw [hwarn, warnPassed_ok hl]
    · rw [hwarn, warnPassed_failed hl]
    · rw [hsm, ← hw]; rfl
    · rw [harb, ← hw]; rfl
    · rw [hse, ← hw]; rfl

end Sys2Proof.Machine
end

section
/-! PROOFS. The lamp readings (R120, R127). -/

namespace Sys2Proof.Machine

/-! ## A reading -/

section LampRead
variable {imin ma : Nat} {x : Beacon}

theorem lampRead_low (h : ma < imin) : (lampRead imin ma x).low = min 3 (x.low + 1)
    ∧ (lampRead imin ma x).good = 0
    ∧ (lampRead imin ma x).lamp = if 2 ≤ x.low then .failed else x.lamp := by
  unfold lampRead
  dsimp only
  rw [if_pos h]
  refine ⟨rfl, rfl, if_congr ?_ rfl rfl⟩
  unfold satInc
  omega

theorem lampRead_good (h : imin ≤ ma) : (lampRead imin ma x).good = min 3 (x.good + 1)
    ∧ (lampRead imin ma x).low = 0
    ∧ (lampRead imin ma x).lamp = if 2 ≤ x.good then .ok else x.lamp := by
  unfold lampRead
  dsimp only
  rw [if_neg (Nat.not_lt.mpr h)]
  refine ⟨rfl, rfl, if_congr ?_ rfl rfl⟩
  unfold satInc
  omega

end LampRead

/-- The state after a reading, before a change of the lamp is acted on. -/
def readingStored (b : BeaconId) (ma : Nat) (s : State) : State :=
  { s with bu := { s.bu with beacons := upd s.bu.beacons b (lampRead s.cfg.beacons[b].imin ma) } }

theorem readingStored_self (b : BeaconId) (ma : Nat) (s : State) :
    (readingStored b ma s).bu.beacons[b] = lampRead s.cfg.beacons[b].imin ma s.bu.beacons[b] :=
  upd_same _ _ _

theorem readingStored_ne {b d : BeaconId} (h : d ≠ b) (ma : Nat) (s : State) :
    (readingStored b ma s).bu.beacons[d] = s.bu.beacons[d] := upd_ne _ _ (Ne.symm h)

/-! ## The recovery of a lamp -/

/-- A zone of the beacon's mask waits with its pre-warn run out (R120). -/
def waitsForLamp (b : BeaconId) (s : State) (z : ZoneId) : Bool :=
  maskHas s.cfg.beacons[b].mask z && s.bu.warns[z].state == .warning && s.bu.warns[z].runOut

/-- The recovery's effect on one zone. -/
def lampRecovered1 (b : BeaconId) (s : State) (z : ZoneId) : State :=
  if waitsForLamp b s z then
    modWarn z (fun _ => { state := .warned, preWarnT := none, runOut := false }) s
  else s

theorem lampRecovered_eq (b : BeaconId) (s : State) :
    lampRecovered b s = allZones.foldl (lampRecovered1 b) s := rfl

theorem lampRecovered1_only (b : BeaconId) (s : State) (z : ZoneId) :
    IntentOnly s (lampRecovered1 b s z) := by
  unfold lampRecovered1
  split <;> rfl

theorem lampRecovered1_ne (b : BeaconId) {y z : ZoneId} (h : y ≠ z) (s : State) :
    (lampRecovered1 b s z).bu.warns[y] = s.bu.warns[y] := by
  unfold lampRecovered1
  split
  · exact modWarn_ne h _ _
  · rfl

theorem lampRecovered1_self (b : BeaconId) (s : State) (z : ZoneId) :
    (lampRecovered1 b s z).bu.warns[z] = if waitsForLamp b s z then
      { state := .warned, preWarnT := none, runOut := false } else s.bu.warns[z] := by
  unfold lampRecovered1
  by_cases h : waitsForLamp b s z = true
  · rw [if_pos h, if_pos h]
    exact modWarn_self _ _ _
  · rw [if_neg h, if_neg h]

theorem waitsForLamp_congr (b : BeaconId) {s t : State} (h : IntentOnly s t) {z : ZoneId}
    (hw : t.bu.warns[z] = s.bu.warns[z]) : waitsForLamp b t z = waitsForLamp b s z := by
  have hcfg : t.cfg = s.cfg := by rw [h]
  rw [waitsForLamp, waitsForLamp, hw, hcfg]

theorem foldl_lampRecovered1 (b : BeaconId) (l : List ZoneId) (hl : l.Nodup) (s : State) {z : ZoneId} :
    (z ∉ l → (l.foldl (lampRecovered1 b) s).bu.warns[z] = s.bu.warns[z])
    ∧ (z ∈ l → (l.foldl (lampRecovered1 b) s).bu.warns[z] = if waitsForLamp b s z then
      { state := .warned, preWarnT := none, runOut := false } else s.bu.warns[z]) := by
  induction l generalizing s with
  | nil => exact ⟨fun _ => rfl, nofun⟩
  | cons y l ih =>
    obtain ⟨hy, hnodup⟩ := List.nodup_cons.mp hl
    obtain ⟨hout, hin⟩ := ih hnodup (lampRecovered1 b s y)
    rw [List.foldl_cons]
    refine ⟨fun hz => ?_, fun hz => ?_⟩
    · obtain ⟨hne, hz⟩ := not_or.mp (fun h => hz (List.mem_cons.mpr h))
      rw [hout hz, lampRecovered1_ne b hne]
    · by_cases hzy : z = y
      · subst hzy
        rw [hout hy, lampRecovered1_self]
      · have hw := lampRecovered1_ne b hzy s
        rw [hin ((List.mem_cons.mp hz).resolve_left hzy), hw,
          waitsForLamp_congr b (lampRecovered1_only b s y) hw]

theorem lampRecovered_warn (b : BeaconId) (s : State) (z : ZoneId) :
    (lampRecovered b s).bu.warns[z] = if waitsForLamp b s z then
      { state := .warned, preWarnT := none, runOut := false } else s.bu.warns[z] := by
  rw [lampRecovered_eq]
  exact (foldl_lampRecovered1 b allZones (by decide) s).2 (mem_allZones z)

theorem lampRecovered_only (b : BeaconId) (s : State) : IntentOnly s (lampRecovered b s) := by
  rw [lampRecovered_eq]
  induction allZones generalizing s with
  | nil => rfl
  | cons z l ih => exact (lampRecovered1_only b s z).trans (ih _)

theorem lampRecovered_zt (b : BeaconId) (s : State) : (lampRecovered b s).zt = s.zt := by
  rw [lampRecovered_eq]
  induction allZones generalizing s with
  | nil => rfl
  | cons z l ih =>
    refine (ih (lampRecovered1 b s z)).trans ?_
    unfold lampRecovered1
    split <;> rfl

theorem IntentOnly.keeps {s t : State} (h : IntentOnly s t) : Keeps s t := by
  rw [h]
  constructor <;> intros <;> rfl

/-! ## The closing of a reading -/

/-- A zone whose intent stands keeps its warning state (R118, R122). -/
theorem warnDerived_intent {s : State} {z : ZoneId} (hi : intentNow s z = true)
    (hold : s.zt.intent[z] = true) : warnDerived s z = s.bu.warns[z] := by
  rw [warnDerived, if_pos hi, if_pos hold]

/-- The lamp state and its counts after a reading of another state of the part. -/
structure LampsRead (b : BeaconId) (ma : Nat) (s t : State) : Prop where
  lamp : ∀ d : BeaconId, t.bu.beacons[d].lamp = (readingStored b ma s).bu.beacons[d].lamp
  low : t.bu.beacons[b].low = (lampRead s.cfg.beacons[b].imin ma s.bu.beacons[b]).low
  good : t.bu.beacons[b].good = (lampRead s.cfg.beacons[b].imin ma s.bu.beacons[b]).good
  inert : InertKept s t

theorem lampsRead_of_keeps {b : BeaconId} {ma : Nat} {s t : State} (h : Keeps (readingStored b ma s) t)
    (hi : InertKept (readingStored b ma s) t) : LampsRead b ma s t where
  lamp := h.lamp
  low := (h.low b).trans (congrArg Beacon.low (readingStored_self b ma s))
  good := (h.goodReads b).trans (congrArg Beacon.good (readingStored_self b ma s))
  inert := hi

/-- A reading is stored, and a change of the lamp is acted on: FAILED sets its flag, OK brings the waiting
zones into WARNED. -/
theorem takeReading_read (b : BeaconId) (ma : Nat) (s : State) :
    LampsRead b ma s (takeReading b ma s)
    ∧ (s.bu.beacons[b].lamp = .ok → (takeReading b ma s).bu.beacons[b].lamp = .failed →
      flagIn (takeReading b ma s).faults (.lamp b) = true)
    ∧ ∀ (z : ZoneId) (h : SlotId), s.arb.holder = some h → NoDriveOffEntry s → intentNow s z = true →
      s.zt.intent[z] = true → (takeReading b ma s).bu.warns[z]
        = if s.bu.beacons[b].lamp = .failed ∧ (takeReading b ma s).bu.beacons[b].lamp = .ok
            ∧ waitsForLamp b s z = true then
          { state := .warned, preWarnT := none, runOut := false } else s.bu.warns[z] := by
  have htake : takeReading b ma s
      = if s.bu.beacons[b].lamp = .ok ∧ (readingStored b ma s).bu.beacons[b].lamp = .failed then
          settle (report (.lamp b) (readingStored b ma s))
        else if s.bu.beacons[b].lamp = .failed ∧ (readingStored b ma s).bu.beacons[b].lamp = .ok then
          settle (lampRecovered b (readingStored b ma s))
        else readingStored b ma s := rfl
  have hstored : (readingStored b ma s).arb = s.arb ∧ (readingStored b ma s).zt = s.zt
      ∧ (∀ z, intentNow (readingStored b ma s) z = intentNow s z)
      ∧ (∀ z, waitsForLamp b (readingStored b ma s) z = waitsForLamp b s z)
      ∧ (readingStored b ma s).bu.warns = s.bu.warns
      ∧ (NoDriveOffEntry s → NoDriveOffEntry (readingStored b ma s)) :=
    ⟨rfl, rfl, fun _ => rfl, fun _ => rfl, rfl, id⟩
  have hread (t : State) := lampsRead_of_keeps (b := b) (ma := ma) (s := s) (t := t)
  generalize readingStored b ma s = u at htake hstored hread
  obtain ⟨harb, hzt, hintent, hwaits, hwarns, hentry⟩ := hstored
  by_cases hfails : s.bu.beacons[b].lamp = .ok ∧ u.bu.beacons[b].lamp = .failed
  · rw [if_pos hfails] at htake
    have hsettled := settle_settled (report (.lamp b) u)
    have hkeeps := (report_keeps (.lamp b) u).trans hsettled.toKeeps
    rw [htake]
    refine ⟨hread _ hkeeps ((InertKept.of_sm rfl).trans hsettled.inert), fun _ _ => ?_,
      fun z h hh hn hi hold => ?_⟩
    · rw [hsettled.flags (.lamp b) nofun, report_faults, flagIn_raiseFlag, decide_eq_true rfl, Bool.or_true]
    · rw [if_neg (fun hc => nomatch hc.1.symm.trans hfails.1),
        settle_held_warn (s := report (.lamp b) u) (h := h) (by rw [report_arb, harb]; exact hh) (hentry hn)]
      have hi' : intentNow (report (.lamp b) u) z = true := (hintent z).trans hi
      rw [warnDerived_intent hi' (by rw [report_zt, hzt]; exact hold), report_bu, hwarns]
  · rw [if_neg hfails] at htake
    by_cases hrecovers : s.bu.beacons[b].lamp = .failed ∧ u.bu.beacons[b].lamp = .ok
    · rw [if_pos hrecovers] at htake
      have honly := lampRecovered_only b u
      have hwarn := lampRecovered_warn b u
      have hsettled := settle_settled (lampRecovered b u)
      have hkeeps := honly.keeps.trans hsettled.toKeeps
      have hok : (settle (lampRecovered b u)).bu.beacons[b].lamp = .ok :=
        (hkeeps.lamp b).trans hrecovers.2
      rw [htake]
      refine ⟨hread _ hkeeps ((InertKept.of_sm (by rw [honly])).trans hsettled.inert),
        fun h _ => ?_, fun z h hh hn hi hold => ?_⟩
      · exact nomatch h.symm.trans hrecovers.1
      · have hholder : (lampRecovered b u).arb.holder = some h := by rw [honly, harb]; exact hh
        have hno : NoDriveOffEntry (lampRecovered b u) := by rw [honly]; exact hentry hn
        have hold' : (lampRecovered b u).zt.intent[z] = true := by
          rw [show (lampRecovered b u).zt = s.zt from (lampRecovered_zt b u).trans hzt]
          exact hold
        rw [settle_held_warn hholder hno, warnDerived_intent ((honly.intentNow z).trans ((hintent z).trans hi))
          hold', hwarn z, hwaits, hwarns]
        exact if_congr ⟨fun hw => ⟨hrecovers.1, hok, hw⟩, fun hw => hw.2.2⟩ rfl rfl
    · rw [if_neg hrecovers] at htake
      rw [htake]
      refine ⟨hread _ (.refl _) (.of_sm rfl), fun h1 h2 => absurd ⟨h1, h2⟩ hfails,
        fun z h hh hn hi hold => ?_⟩
      rw [if_neg (fun hc => hrecovers ⟨hc.1, hc.2.1⟩), hwarns]

/-- Settles O41: the counts by `lampRead`, what a change of the lamp brings by `takeReading_read`. -/
theorem lampReadingsAreCounted : Obligations.LampReadingsAreCounted := by
  intro b ma s
  refine ⟨fun hd => ?_, fun hd => ?_⟩
  · rw [exec_lampReading, if_neg (by rw [hd]; exact nofun)]
  · have hexec : exec (.lampReading b ma) s = .next (takeReading b ma s) := by
      rw [exec_lampReading, if_pos hd]
    obtain ⟨hread, hflag, hwarn⟩ := takeReading_read b ma s
    generalize takeReading b ma s = t at hexec hread hflag hwarn
    have hlamp : t.bu.beacons[b].lamp = (lampRead s.cfg.beacons[b].imin ma s.bu.beacons[b]).lamp :=
      (hread.lamp b).trans (congrArg Beacon.lamp (readingStored_self b ma s))
    refine ⟨t, hexec, fun h => ?_, fun h => ?_, fun d hd => ?_, fun z h hh hn hi hold => ?_,
      fun i hi => (hread.inert i hi).1⟩
    · obtain ⟨hlow, hgood, hstate⟩ := lampRead_low (x := s.bu.beacons[b]) h
      refine ⟨hread.low.trans hlow, hread.good.trans hgood, hlamp.trans hstate, fun h2 hok => hflag hok ?_⟩
      rw [hlamp, hstate, if_pos h2]
    · obtain ⟨hgood, hlow, hstate⟩ := lampRead_good (x := s.bu.beacons[b]) h
      exact ⟨hread.good.trans hgood, hread.low.trans hlow, hlamp.trans hstate⟩
    · rw [hread.lamp d, readingStored_ne hd]
    · rw [hwarn z h hh hn hi hold]
      simp only [waitsForLamp, Bool.and_eq_true, beq_iff_eq, and_assoc]

end Sys2Proof.Machine
end

section
/-! PROOFS. The demands of the zones and the beacons (R123, R124), and the flash edge (R126, R128). -/

namespace Sys2Proof.Machine

/-! ## The demand of a zone -/

theorem mem_allAxes (a : AxisId) : a ∈ allAxes := (by decide : ∀ a : AxisId, a ∈ allAxes) a

theorem zoneSensorFault_iff (s : State) (z : ZoneId) : zoneSensorFault s z = true
    ↔ ∃ a : AxisId, (s.axisCfg a).present = true ∧ s.axisZone a = some z ∧ s.sensors[a].state = .fault := by
  unfold zoneSensorFault
  rw [List.any_eq_true]
  have hone (a : AxisId) : (axisInZone s z a && s.sensors[a].state == .fault) = true
      ↔ (s.axisCfg a).present = true ∧ s.axisZone a = some z ∧ s.sensors[a].state = .fault := by
    rw [axisInZone, Bool.and_eq_true, Bool.and_eq_true, beq_iff_eq, beq_iff_eq, and_assoc]
  constructor
  · rintro ⟨a, -, h⟩
    exact ⟨a, (hone a).mp h⟩
  · rintro ⟨a, h⟩
    exact ⟨a, mem_allAxes a, (hone a).mpr h⟩

section ZoneDemand
variable {s : State} {z : ZoneId}

theorem zoneDemand_driveOff (h : s.zt.driveOff = true) : zoneDemand s z = .driveOff := by
  rw [zoneDemand, if_pos h]

theorem zoneDemand_fault (hd : s.zt.driveOff = false) (h : s.loop.state ≠ .ready ∨ ∃ a : AxisId,
    (s.axisCfg a).present = true ∧ s.axisZone a = some z ∧ s.sensors[a].state = .fault) :
    zoneDemand s z = .fault := by
  have hfault : (zoneSensorFault s z || s.loop.state != .ready) = true := by
    rw [Bool.or_eq_true, zoneSensorFault_iff, bne_iff_ne]
    exact h.symm
  rw [zoneDemand, if_neg (by rw [hd]; exact nofun), if_pos hfault]

theorem zoneDemand_sound (hd : s.zt.driveOff = false) (hl : s.loop.state = .ready)
    (ha : ∀ a : AxisId, (s.axisCfg a).present = true → s.axisZone a = some z → s.sensors[a].state ≠ .fault) :
    zoneDemand s z = (
      if s.bu.warns[z].state ≠ .quiet ∨ s.zt.blocks[z].state = .releasing then .warning
      else if s.zt.blocks[z].state = .blocked then .blocked
      else if s.zt.position[z] = .opened then .opened else .none) := by
  have hfault : ¬ (zoneSensorFault s z || s.loop.state != .ready) = true := by
    rw [Bool.or_eq_true, zoneSensorFault_iff, bne_iff_ne]
    rintro (⟨a, hp, hz, hs⟩ | hs)
    · exact ha a hp hz hs
    · exact hs hl
  rw [zoneDemand, if_neg (by rw [hd]; exact nofun), if_neg hfault]
  refine if_congr ?_ rfl (if_congr beq_iff_eq rfl (if_congr beq_iff_eq rfl rfl))
  rw [Bool.or_eq_true, bne_iff_ne, beq_iff_eq]

end ZoneDemand

/-! ## The demand of a beacon -/

theorem top_rank (x y : Demand) : (x.top y).rank ≤ x.rank ∧ (x.top y).rank ≤ y.rank := by
  unfold Demand.top
  split <;> omega

theorem top_cases (x y : Demand) : x.top y = x ∨ x.top y = y := by
  unfold Demand.top
  split
  · exact .inr rfl
  · exact .inl rfl

/-- The demand after the zones of a list, from one that stands before them. -/
def demandOver (d0 : Demand) (p : ZoneId → Bool) (f : ZoneId → Demand) (l : List ZoneId) : Demand :=
  l.foldl (fun d z => if p z then d.top (f z) else d) d0

theorem demandOver_rank (p : ZoneId → Bool) (f : ZoneId → Demand) (l : List ZoneId) (d0 : Demand) :
    (demandOver d0 p f l).rank ≤ d0.rank ∧ ∀ z ∈ l, p z = true → (demandOver d0 p f l).rank ≤ (f z).rank := by
  induction l generalizing d0 with
  | nil => exact ⟨le_rfl, nofun⟩
  | cons y l ih =>
    obtain ⟨hfirst, hrest⟩ := ih (if p y then d0.top (f y) else d0)
    have hstep : (if p y then d0.top (f y) else d0).rank ≤ d0.rank := by
      split
      · exact (top_rank _ _).1
      · exact le_rfl
    refine ⟨hfirst.trans hstep, fun z hz hp => ?_⟩
    rcases List.mem_cons.mp hz with rfl | hz
    · refine hfirst.trans ?_
      rw [if_pos hp]
      exact (top_rank _ _).2
    · exact hrest z hz hp

theorem demandOver_cases (p : ZoneId → Bool) (f : ZoneId → Demand) (l : List ZoneId) (d0 : Demand) :
    demandOver d0 p f l = d0 ∨ ∃ z, p z = true ∧ demandOver d0 p f l = f z := by
  induction l generalizing d0 with
  | nil => exact .inl rfl
  | cons y l ih =>
    rcases ih (if p y then d0.top (f y) else d0) with h | h
    · by_cases hp : p y = true
      · rw [if_pos hp] at h
        have hover : demandOver d0 p f (y :: l) = d0.top (f y) := by
          rw [← h, demandOver, List.foldl_cons, if_pos hp]
          rfl
        rcases top_cases d0 (f y) with htop | htop
        · exact .inl (hover.trans htop)
        · exact .inr ⟨y, hp, hover.trans htop⟩
      · rw [if_neg hp] at h
        refine .inl ?_
        rw [demandOver, List.foldl_cons, if_neg hp]
        exact h
    · exact .inr h

theorem beaconDemand_held {s : State} (h : s.store.fault = false) (b : BeaconId) : beaconDemand s b
    = demandOver .none (fun z => maskHas s.cfg.beacons[b].mask z) (zoneDemand s) allZones := by
  rw [beaconDemand, if_neg (by rw [h]; exact nofun)]
  rfl

/-! ## The demands at the end of a command -/

theorem ShownOnly.beaconDemand {s t : State} (h : ShownOnly s t) (b : BeaconId) :
    beaconDemand t b = beaconDemand s b := by rw [h]; rfl

theorem show_demand (s : State) (b : BeaconId) (x : Beacon) : (Beacon.show s b x).demand = beaconDemand s b := by
  unfold Beacon.show
  split
  · rename_i h; exact h.symm
  · rfl

theorem sendNext_bu (s : State) : (sendNext s).bu = s.bu := by
  unfold sendNext
  repeat' split
  all_goals rfl

/-- The closing of a command shows each beacon the demand of the state it leaves (R124; log 12). -/
theorem settle_demand (s : State) (b : BeaconId) :
    (settle s).bu.beacons[b].demand = beaconDemand (settle s) b := by
  unfold settle
  generalize grantLoop grantBound (judgeDriveOff (judgeDriveOff s)) = l
  have hshown : ShownOnly l (sendNext (showAll l)) := (ShownOnly.showAll l).trans (ShownOnly.sendNext _)
  rw [hshown.beaconDemand, sendNext_bu]
  exact (congrArg Beacon.demand (mapBeacons_get (Beacon.show l) l b) :).trans (show_demand l b _)

/-! ## The flash edge -/

theorem litAt_iff (s : State) (d : Demand) : litAt s d = true ↔ s.parked = false
    ∧ ∃ p, patternOf s.cfg d = some p ∧ s.bu.phase % p.period < p.period * p.share / 100 := by
  unfold litAt inWindow
  cases patternOf s.cfg d with
  | none => simp
  | some p => simp

theorem sounderCondition_iff (s : State) : sounderCondition s = true
    ↔ s.store.fault = false ∧ s.parked = false ∧ (s.zt.driveOff = true
      ∨ (∃ z : ZoneId, s.zt.blocks[z].state = .releasing)
      ∨ ∃ z : ZoneId, s.cfg.zones[z].sounderOnMotion = true ∧ zoneDemand s z = .warning) := by
  simp only [sounderCondition, Bool.and_eq_true, Bool.or_eq_true, Bool.not_eq_true', List.any_eq_true,
    beq_iff_eq, and_assoc, or_assoc]
  simp only [mem_allZones, true_and]

/-- Settles O42: the flash edge by `litAt_iff` and `sounderCondition_iff`, the demands by `settle_demand`. -/
theorem flashEdgeFollowsThePhase : Obligations.FlashEdgeFollowsThePhase := by
  intro s
  refine ⟨⟨_, exec_flashEdge s, rfl, fun b => ?_, ?_⟩,
    fun z => ⟨zoneDemand_driveOff, fun hd => ⟨zoneDemand_fault hd, zoneDemand_sound hd⟩⟩,
    fun b => ⟨fun hf => ?_, fun hf => ?_⟩⟩
  · have hedge : (soundNow (mapBeacons (fun _ x => x.edge s) s)).bu.beacons[b] = s.bu.beacons[b].edge s :=
      mapBeacons_get (fun _ x => x.edge s) s b
    rw [hedge]
    exact ⟨rfl, litAt_iff s _⟩
  · have hsound : (soundNow (mapBeacons (fun _ x => x.edge s) s)).bu.sounder
        = (sounderCondition s && decide (s.bu.phase % 1000 < 500)) := rfl
    rw [hsound, Bool.and_eq_true, decide_eq_true_iff, sounderCondition_iff]
    exact and_comm
  · have hfault : (settle s).store.fault = true := by rw [(settle_keeps s).store]; exact hf
    rw [settle_demand, beaconDemand, if_pos hfault]
  · have hheld : (settle s).store.fault = false := by rw [(settle_keeps s).store]; exact hf
    rw [settle_demand, beaconDemand_held hheld, (settle_keeps s).cfg]
    refine ⟨fun z hz => ?_, ?_⟩
    · exact (demandOver_rank _ _ allZones .none).2 z (mem_allZones z) hz
    · exact demandOver_cases _ _ allZones .none

end Sys2Proof.Machine
end

section
/-! PROOFS. Write Configuration (R173, R174). -/

namespace Sys2Proof.Machine

/-! ## The refusals and the programming -/

theorem allSlotsFree_iff (s : State) : allSlotsFree s = true ↔ ∀ i, (s.slot i).state = .free := by
  simp only [allSlotsFree, List.all_eq_true, mem_allSlots, true_imp_iff, beq_iff_eq]

theorem brakeKnown_iff (s : State) : brakeKnown s = true
    ↔ s.fresh = true ∧ ∃ v, s.veh.status = some v ∧ v.brake = true := by
  unfold brakeKnown
  cases s.veh.status with
  | none => simp
  | some v => simp

/-- The part takes a record: every slot FREE, the loop READY, the power state RUN, the brake known applied
(R173). -/
def takesRecord (s : State) : Prop :=
  (∀ i, (s.slot i).state = .free) ∧ s.loop.state = .ready ∧ s.sup.power = .run
    ∧ s.fresh = true ∧ ∃ v, s.veh.status = some v ∧ v.brake = true

theorem takesRecord_iff (s : State) : takesRecord s
    ↔ (!(allSlotsFree s) || s.loop.state != .ready || s.sup.power != .run || !(brakeKnown s)) = false := by
  rw [Bool.or_eq_false_iff, Bool.or_eq_false_iff, Bool.or_eq_false_iff, Bool.not_eq_false', Bool.not_eq_false',
    bne_eq_false_iff_eq, bne_eq_false_iff_eq, allSlotsFree_iff, brakeKnown_iff, and_assoc, and_assoc]
  exact Iff.rfl

section WriteRefusal
variable {s : State} {record : List Byte}

theorem writeRefusal_length (h : record.length ≠ 393) : writeRefusal s record = some (.badRequest, .none) :=
  if_pos h

theorem writeRefusal_busy (h : record.length = 393) (hp : s.store.programming ≠ none) :
    writeRefusal s record = some (.busy, .none) := by
  rw [writeRefusal, if_neg (fun hne => hne h), if_pos (Option.isSome_iff_ne_none.mpr hp)]

theorem writeRefusal_state (h : record.length = 393) (hp : s.store.programming = none)
    (hs : ¬ takesRecord s) : writeRefusal s record = some (.wrongState, .none) := by
  rw [writeRefusal, if_neg (fun hne => hne h), hp, if_neg (by exact nofun), if_pos]
  rw [takesRecord_iff, Bool.not_eq_false] at hs
  exact hs

theorem writeRefusal_range (h : record.length = 393) (hp : s.store.programming = none)
    (hs : takesRecord s) :
    writeRefusal s record = (rangeFailure record).map fun k => (.configRange, .field k) := by
  rw [writeRefusal, if_neg (fun hne => hne h), hp, if_neg (by exact nofun), if_neg]
  rw [(takesRecord_iff s).mp hs]
  exact nofun

end WriteRefusal

/-- A Write Configuration of the cab that is refused is only answered. -/
theorem exec_write_refused {record : List Byte} {s : State} (hr : Reaches .cab s) {c : Code} {r : Result}
    (h : writeRefusal s record = some (c, r)) :
    exec (.writeConfiguration .cab record) s = .next (answered .cab 17 c r s) := by
  rw [exec_writeConfiguration, viaLink_answered hr (f := takeWriteConfiguration record) (k := 17) (c := c)
    (r := r)]
  unfold takeWriteConfiguration
  rw [if_neg (fun hne => hne rfl), show writeRefusal (requestTaken .cab s) record = some (c, r) from h]
  rfl

/-- An accepted one begins the programming (R174). -/
theorem exec_write_accepted {record : List Byte} {s : State} (hr : Reaches .cab s)
    (h : writeRefusal s record = none) : ∃ t, exec (.writeConfiguration .cab record) s = .next t
      ∧ t = { s with store := { s.store with programming := some record }, tx := t.tx } := by
  have htake : takeWriteConfiguration record (senderStation .cab) (requestTaken .cab s)
      = { s with store := { s.store with programming := some record } } := by
    unfold takeWriteConfiguration
    rw [if_neg (fun hne => hne rfl), show writeRefusal (requestTaken .cab s) record = none from h]
    rfl
  rw [exec_writeConfiguration, viaLink_reaches hr, htake]
  exact ⟨_, rfl, sendNext_eq _⟩

/-! ## The new record comes into force -/

theorem follow_lamps (s : State) (b : BeaconId) (x : Beacon) : (Beacon.follow s b x).lamp = x.lamp
    ∧ (Beacon.follow s b x).low = x.low ∧ (Beacon.follow s b x).good = x.good := by
  unfold Beacon.follow
  split <;> exact ⟨rfl, rfl, rfl⟩

theorem supply_eta {p : Supply} {x : SupplyState} {a b c d : Option Nat} (hx : p.supply = x)
    (ha : p.belowNormal = a) (hb : p.belowExh = b) (hc : p.aboveExh = c) (hd : p.aboveNormal = d) :
    p = { p with supply := x, belowNormal := a, belowExh := b, aboveExh := c, aboveNormal := d } := by
  subst hx ha hb hc hd
  rfl

section IntoForce
variable (record : List Byte) (s : State)

/-- The parts of the state that a new record leaves to the derivations of R51, R124 and R146. -/
theorem comeIntoForce_only : comeIntoForce record s = { recordRead record s with
    zt := { s.zt with position := (comeIntoForce record s).zt.position }
    sup := (comeIntoForce record s).sup
    bu := (comeIntoForce record s).bu
    poll := (comeIntoForce record s).poll } := by
  rw [comeIntoForce_eq, ensurePolling_eq]
  have hderived := derivePositions_eq (lampsRead s.cfg (recordRead record s))
  generalize derivePositions (lampsRead s.cfg (recordRead record s)) = d at hderived
  rw [hderived]
  rfl

theorem comeIntoForce_lamps (b : BeaconId) :
    (comeIntoForce record s).bu.beacons[b].low = 0 ∧ (comeIntoForce record s).bu.beacons[b].good = 0
      ∧ (comeIntoForce record s).bu.beacons[b].lamp
        = if (readCfg record).beacons[b].lampCheck then s.bu.beacons[b].lamp else .ok := by
  have hbu : (derivePositions (lampsRead s.cfg (recordRead record s))).bu
      = (lampsRead s.cfg (recordRead record s)).bu := by rw [derivePositions_eq]
  have hacross : (lampsRead s.cfg (recordRead record s)).bu.beacons[b]
      = beaconAcross (readCfg record).beacons[b]
        (cutByRecord s.cfg (readCfg record) s.bu.phase s.bu.beacons[b]) s.bu.beacons[b] :=
    mapBeacons_get (fun b x => beaconAcross (readCfg record).beacons[b]
      (cutByRecord s.cfg (readCfg record) s.bu.phase x) x) (recordRead record s) b
  rw [comeIntoForce_eq, ensurePolling_eq]
  generalize lampsRead s.cfg (recordRead record s) = l at hbu hacross
  generalize derivePositions l = d at hbu
  have hfollow : (relight d).bu.beacons[b] = Beacon.follow d b d.bu.beacons[b] :=
    mapBeacons_get (Beacon.follow d) d b
  obtain ⟨hlamp, hlow, hgood⟩ := follow_lamps d b d.bu.beacons[b]
  show (relight d).bu.beacons[b].low = 0 ∧ (relight d).bu.beacons[b].good = 0
    ∧ (relight d).bu.beacons[b].lamp = _
  rw [hfollow, hlow, hgood, hlamp, hbu, hacross]
  exact ⟨rfl, rfl, rfl⟩

theorem comeIntoForce_sup : (comeIntoForce record s).sup = { (comeIntoForce record s).sup with
    supply := s.sup.supply, belowNormal := none, belowExh := none, aboveExh := none, aboveNormal := none } := by
  have hkeeps := derivePositions_keeps (s := lampsRead s.cfg (recordRead record s))
  have hsup : (comeIntoForce record s).sup
      = (derivePositions (lampsRead s.cfg (recordRead record s))).sup := by
    rw [comeIntoForce_eq, ensurePolling_eq]
    rfl
  rw [hsup]
  exact supply_eta hkeeps.supply hkeeps.belowNormal hkeeps.belowExh hkeeps.aboveExh hkeeps.aboveNormal

theorem comeIntoForce_crew (c : CrewId) : (comeIntoForce record s).crew[c]
    = if (readCfg record).stations[c].present = false then
        { s.crew[c] with link := .absent, enable := false, queue := [] }
      else if s.crew[c].link = .absent then
        { s.crew[c] with link := .searching, miss := 0, good := 0, enable := false, queue := [] }
      else s.crew[c] := by
  rw [comeIntoForce_only]
  show (Vector.zipWith crewAcross (readCfg record).stations s.crew)[c] = _
  rw [Fin.getElem_fin, Vector.getElem_zipWith, crewAcross]
  cases hp : (readCfg record).stations[c.val].present with
  | true => rfl
  | false => rfl

theorem comeIntoForce_sensors (a : AxisId) : (comeIntoForce record s).sensors[a]
    = if s.cfg.axes[a].present = true ∧ (readCfg record).axes[a].present = true then s.sensors[a]
      else Sensor.unsynced := by
  rw [comeIntoForce_only]
  show (Vector.zipWith (fun (p : AxisCfg × AxisCfg) x => sensorAcross p.1 p.2 x)
    (Vector.zip s.cfg.axes (readCfg record).axes) s.sensors)[a] = _
  rw [Fin.getElem_fin, Vector.getElem_zipWith, Vector.getElem_zip, sensorAcross]
  exact if_congr Bool.and_eq_true_iff rfl rfl

end IntoForce

/-! ## The completion -/

/-- The state with a completed write's bytes in the store (R174). -/
def recordStored (record : List Byte) (s : State) : State :=
  { s with store := { s.store with
    bytes := record, torn := false, programming := none, rewritten := s.store.fault } }

/-- The state a completed write hands to the answer (R174). -/
def recordWritten (record : List Byte) (s : State) : State :=
  if s.store.fault then recordStored record s else comeIntoForce record (recordStored record s)

/-- What a completed write leaves alone, with the record in force. -/
structure WriteKeeps (record : List Byte) (s u : State) : Prop where
  cab : u.cab = s.cab
  faults : u.faults = s.faults
  sm : u.sm = s.sm
  arb : u.arb = s.arb
  se : u.se = s.se
  store : u.store = (recordStored record s).store
  cfg : u.cfg = if s.store.fault then s.cfg else readCfg record
  blocks : u.zt.blocks = s.zt.blocks
  loop : u.loop = s.loop
  veh : u.veh = s.veh
  lines : u.lines = s.lines
  supply : u.sup.supply = s.sup.supply

theorem recordWritten_keeps (record : List Byte) (s : State) : WriteKeeps record s (recordWritten record s) := by
  unfold recordWritten
  cases hf : s.store.fault with
  | true =>
    rw [if_pos rfl]
    exact ⟨rfl, rfl, rfl, rfl, rfl, rfl, by rw [hf]; rfl, rfl, rfl, rfl, rfl, rfl⟩
  | false =>
    rw [if_neg Bool.false_ne_true]
    have honly := comeIntoForce_only record (recordStored record s)
    have hsup := comeIntoForce_sup record (recordStored record s)
    generalize comeIntoForce record (recordStored record s) = u at honly hsup
    constructor
    case supply => rw [hsup]; rfl
    case cfg => rw [honly, hf]; rfl
    all_goals rw [honly]; rfl

theorem writeCompleted_eq (record : List Byte) (s : State) : writeCompleted record s
    = answer 0 17 .ok (.written (carriedCheck record) s.store.fault) (recordWritten record s) := by
  have hfault : (recordWritten record s).store.fault = s.store.fault :=
    (congrArg Store.fault (recordWritten_keeps record s).store :)
  rw [← hfault]
  rfl

/-- Settles O51: the refusals by `writeRefusal`, the completion by `recordWritten`. -/
theorem writeConfigurationProgramsTheStore : Obligations.WriteConfigurationProgramsTheStore := by
  intro record s
  refine ⟨fun c n hr => ?_, fun hr hl => exec_write_refused hr (writeRefusal_length hl),
    fun hr hp hl => exec_write_refused hr (writeRefusal_busy hl hp),
    fun hr hl hp hbad => exec_write_refused hr (writeRefusal_state hl hp ?_),
    fun hr hl hp hfree hready hrun hfresh hbrake => ?_, fun hp => ?_⟩
  · rw [exec_writeConfiguration, viaLink_answered hr (f := takeWriteConfiguration record) (k := 17)
      (c := .notPermitted) (r := .none)]
    unfold takeWriteConfiguration
    rw [if_pos (show senderStation (.crew c n) ≠ 0 from stationOf_ne_cab c)]
    rfl
  · rintro ⟨hfree, hready, hrun, hfresh, v, hv, hb⟩
    rcases hbad with ⟨i, hi⟩ | h | h | h | h
    · exact hi (hfree i)
    · exact h hready
    · exact h hrun
    · exact nomatch h.symm.trans hfresh
    · exact nomatch (h v hv).symm.trans hb
  · have hrefusal := writeRefusal_range (record := record) hl hp ⟨hfree, hready, hrun, hfresh, hbrake⟩
    refine ⟨fun k hk => exec_write_refused hr (by rw [hrefusal, hk]; rfl), fun hn => ?_⟩
    exact exec_write_accepted hr (by rw [hrefusal, hn]; rfl)
  · have hexec : exec .writeConfigurationCompletion s = .next (settle (writeCompleted record s)) := by
      rw [exec_writeConfigurationCompletion, hp]
    rw [writeCompleted_eq] at hexec
    have hkept := recordWritten_keeps record s
    have hheld (hf : s.store.fault = false) :
        recordWritten record s = comeIntoForce record (recordStored record s) := by
      rw [recordWritten, if_neg (by rw [hf]; exact nofun)]
    have hfault (hf : s.store.fault = true) : recordWritten record s = recordStored record s := by
      rw [recordWritten, if_pos hf]
    generalize recordWritten record s = u at hexec hkept hheld hfault
    have hsettled := settle_settled (answer 0 17 .ok (.written (carriedCheck record) s.store.fault) u)
    have hall : Keeps u (settle (answer 0 17 .ok (.written (carriedCheck record) s.store.fault) u)) :=
      (place_keeps _ _ u).trans hsettled.toKeeps
    have hslot (i : SlotId) : (answer 0 17 .ok (.written (carriedCheck record) s.store.fault) u).slot i
        = s.slot i := (place_slot _ _ u i).trans (slot_congr (congrArg SeqManager.slots hkept.sm) i)
    generalize settle (answer 0 17 .ok (.written (carriedCheck record) s.store.fault) u) = t
      at hexec hsettled hall
    refine ⟨u, t, hexec, hsettled, hkept.cab, hkept.faults, hkept.sm, hkept.arb, hkept.se, fun hf => ?_,
      fun hf => ⟨fun c => ?_, fun a => ?_, fun b => ?_, ?_⟩, hall.store.trans hkept.store,
      hall.cfg.trans hkept.cfg, hall.blocks.trans hkept.blocks, ?_, hall.loop.trans hkept.loop,
      hall.veh.trans hkept.veh, hall.lines.trans hkept.lines, hall.supply.trans hkept.supply, fun i hi => ?_⟩
    · rw [hall.store, hkept.store, hfault hf]
      rfl
    · rw [hall.cfg, hkept.cfg, hf, hheld hf]
      exact comeIntoForce_crew record (recordStored record s) c
    · rw [hall.cfg, hkept.cfg, hf, hheld hf]
      exact comeIntoForce_sensors record (recordStored record s) a
    · rw [hall.cfg, hkept.cfg, hf, hheld hf]
      exact comeIntoForce_lamps record (recordStored record s) b
    · rw [hheld hf]
      exact comeIntoForce_sup record (recordStored record s)
    · rw [hall.hold, hkept.arb]
    · rw [(hsettled.inert i (by rw [hslot]; exact hi)).1, hslot]

end Sys2Proof.Machine
end

section
/-! PROOFS. The start-up (R170) and the refusals of a Restart (R171). -/

namespace Sys2Proof.Machine

/-! ## The start-up -/

section StartUp
variable (l : LineLevels) (r : Option TxRun) (s : State)

/-- What follows the reset of the blocks derives positions and demands, begins the Polls and sends. -/
theorem startUp_only : startUp l r s = { resetBlocks l r s with
    zt := { (resetBlocks l r s).zt with position := (startUp l r s).zt.position }
    sup := (startUp l r s).sup
    bu := { (resetBlocks l r s).bu with
      beacons := (startUp l r s).bu.beacons, sounder := (startUp l r s).bu.sounder }
    poll := (startUp l r s).poll
    tx := (startUp l r s).tx } := by
  unfold startUp
  generalize resetBlocks l r s = w
  have hderived := derivePositions_eq w
  generalize derivePositions w = d at hderived
  have hpolled := ensurePolling_eq d
  generalize ensurePolling d = e at hpolled
  rw [sendNext_eq, hpolled, hderived]
  rfl

theorem startUp_supply : (startUp l r s).sup.supply = (resetBlocks l r s).sup.supply := by
  unfold startUp
  generalize resetBlocks l r s = w
  have hpolled := ensurePolling_eq (derivePositions w)
  rw [(sendNext_keeps _).supply]
  show (ensurePolling (derivePositions w)).sup.supply = _
  rw [hpolled]
  exact (derivePositions_keeps w).supply

end StartUp

/-- The flags after a start-up: CONFIG alone in CONFIG_FAULT (R138, R170). -/
theorem firstFlags (good : Bool) :
    (if good then 0 else flagBit .config) = if (!good) = true then 4#32 else 0#32 := by
  cases good <;> decide

/-! ## Restart -/

section Restart
variable {s : State} {b : Nat}

theorem restartRefusal_busy (h : s.store.programming ≠ none) :
    restartRefusal s (senderStation .cab) = some .busy := by
  rw [restartRefusal, if_neg (fun hne => hne rfl), if_pos (Option.isSome_iff_ne_none.mpr h)]

theorem restartRefusal_state (hp : s.store.programming = none) (h : ∃ i, (s.slot i).state ≠ .free) :
    restartRefusal s (senderStation .cab) = some .wrongState := by
  have hfree : ¬ allSlotsFree s = true := by
    rw [allSlotsFree_iff]
    exact fun hall => h.elim fun i hi => hi (hall i)
  rw [restartRefusal, if_neg (fun hne => hne rfl), hp, if_neg (by exact nofun),
    if_pos (by rw [Bool.eq_false_iff.mpr hfree]; rfl)]

theorem restartRefusal_none (hp : s.store.programming = none) (h : ∀ i, (s.slot i).state = .free) :
    restartRefusal s (senderStation .cab) = none := by
  rw [restartRefusal, if_neg (fun hne => hne rfl), hp, if_neg (by exact nofun),
    if_neg (by rw [(allSlotsFree_iff s).mpr h]; exact nofun)]

theorem exec_restart_refused {src : Sender} (hr : Reaches src s) {c : Code}
    (h : restartRefusal (requestTaken src s) (senderStation src) = some c) :
    exec (.restart src b) s = .next (answered src 18 c .none s) := by
  rw [exec_restart, viaLink_answered hr (f := takeRestart b) (k := 18) (c := c) (r := .none)]
  unfold takeRestart
  rw [h]
  rfl

theorem exec_restart_accepted (hr : Reaches .cab s) (h : restartRefusal s (senderStation .cab) = none) :
    exec (.restart .cab b) s = .next (sendNext
      (startUp (standingLevels s b) (s.tx.run.map fun r => { r with abandoned := true }) s)) := by
  have htake : takeRestart b (senderStation .cab) (requestTaken .cab s)
      = startUp (standingLevels s b) (s.tx.run.map fun r => { r with abandoned := true }) s := by
    unfold takeRestart
    rw [show restartRefusal (requestTaken .cab s) (senderStation .cab) = none from h]
    rfl
  rw [exec_restart, viaLink_reaches hr, htake]
  rfl

end Restart

/-- A start-up, with or without the transmitter's next run begun. -/
theorem startUp_command {c : Instr} {l : LineLevels} {s : State} (h : c = .powerOn l
    ∨ (∃ b, c = .restart .cab b ∧ Reaches .cab s ∧ s.store.programming = none
      ∧ (∀ i, (s.slot i).state = .free)
      ∧ l = { closedA := s.loop.closedA, closedB := s.loop.closedB, battery := b
              ignition := s.lines.ignition, latchMade := s.lines.latchMade })) :
    ∃ r x, exec c s = .next { startUp l r s with tx := x } := by
  rcases h with rfl | ⟨b, rfl, hr, hp, hfree, rfl⟩
  · exact ⟨none, _, exec_powerOn l s⟩
  · have hexec := exec_restart_accepted (b := b) hr (restartRefusal_none hp hfree)
    exact ⟨_, _, hexec.trans (congrArg _ (sendNext_eq _))⟩

/-- Settles O52: the reset values of `resetBlocks`, which the start-up keeps (`startUp_only`). -/
theorem startUpResetsThePart : Obligations.StartUpResetsThePart := by
  intro c l s
  refine ⟨fun hc => ?_, fun k n b hr => ?_, fun b hr hp => ?_, fun b hr hp hs => ?_⟩
  · obtain ⟨r, x, hexec⟩ := startUp_command hc
    have honly := startUp_only l r s
    have hsupply := startUp_supply l r s
    generalize startUp l r s = u at hexec honly hsupply
    have hcfg : u.cfg = if u.store.fault then Cfg.inFault else readCfg u.store.bytes := by
      rw [honly]
      show (if storeGood (storeFound s) = true then readCfg (storeFound s).bytes else Cfg.inFault) = _
      by_cases hgood : storeGood (storeFound s) = true <;> simp [resetBlocks, hgood]
    have hcrew (k : CrewId) : u.crew[k] = freshCrew u.cfg.stations[k] := by
      rw [honly]
      simp only [resetBlocks, Fin.getElem_fin, Vector.getElem_map]
    refine ⟨_, hexec, fun i => ?_, ?_, fun z => ?_, ?_, ?_, ?_, fun a => ⟨?_, ?_⟩, ?_, fun z => ?_, ?_, ?_, ?_,
      fun hp => ?_, fun hp => ?_, ?_, hcfg, ?_, fun k => ?_, ?_, ?_, ?_⟩
    · rw [honly]; simp [State.slot, resetBlocks]
    · rw [honly]; rfl
    · rw [honly]; simp [resetBlocks]
    · rw [honly]; rfl
    · rw [honly]; rfl
    · rw [honly]; rfl
    · rw [honly]; simp [resetBlocks]
    · rw [honly]; simp [resetBlocks]
    · rw [honly]; rfl
    · rw [honly]; simp [resetBlocks]
    · rw [honly]; rfl
    · rw [honly]
      show (if (l.closedA != l.closedB) = true then some 200 else none) = _
      cases l.closedA <;> cases l.closedB <;> rfl
    · rw [honly]; rfl
    · rw [honly]
      simp [resetBlocks, storeFound, hp]
    · rw [honly]
      obtain ⟨record, hrecord⟩ := Option.ne_none_iff_exists'.mp hp
      simp [resetBlocks, storeFound, storeGood, hrecord]
    · rw [honly]
      exact firstFlags _
    · rw [hsupply, honly]
      rfl
    · rw [hcrew k]
      exact ⟨rfl, rfl, rfl⟩
    · rw [honly]; rfl
    · rw [honly]; rfl
    · rw [honly]; rfl
  · refine exec_restart_refused hr ?_
    rw [restartRefusal, if_pos (show senderStation (.crew k n) ≠ 0 from stationOf_ne_cab k)]
  · exact exec_restart_refused hr (restartRefusal_busy hp)
  · exact exec_restart_refused hr (restartRefusal_state hp hs)

end Sys2Proof.Machine
end

section
/-! PROOFS. A station is lost (R35, R157): what its loss does to the slots, and to the queue of a station that
is not ONLINE. -/

namespace Sys2Proof.Machine

/-! ## The loss of an owner, slot by slot -/

/-- The record of a slot after the loss of a station (R35). -/
def lossRecord (st : StationId) (x : Slot) : Slot :=
  if x.owner = st then
    if x.state = .queued then { x with state := .paused, pauseCause := some .ownerLost, ownerLost := false }
    else if x.state = .active ∨ x.state = .stopping ∨ x.state = .dwelling then { x with ownerLost := true }
    else x
  else x

section LossRecord
variable {st : StationId} {x : Slot}

theorem lossRecord_other (h : x.owner ≠ st) : lossRecord st x = x := if_neg h

theorem lossRecord_queued (h : x.owner = st) (hq : x.state = .queued) :
    lossRecord st x = { x with state := .paused, pauseCause := some .ownerLost, ownerLost := false } := by
  rw [lossRecord, if_pos h, if_pos hq]

theorem lossRecord_marked (h : x.owner = st)
    (hm : x.state = .active ∨ x.state = .stopping ∨ x.state = .dwelling) :
    lossRecord st x = { x with ownerLost := true } := by
  rw [lossRecord, if_pos h, if_neg (by rcases hm with hm | hm | hm <;> rw [hm] <;> exact nofun), if_pos hm]

theorem lossRecord_stopping (h : x.state = .stopping) :
    lossRecord st x = { x with ownerLost := x.ownerLost || x.owner == st } := by
  by_cases ho : x.owner = st
  · rw [lossRecord_marked ho (.inr (.inl h)), ho, beq_self_eq_true, Bool.or_true]
  · rw [lossRecord_other ho, beq_eq_false_iff_ne.mpr ho, Bool.or_false]

theorem lossRecord_idle (hf : x.state ≠ .dwelling) (hi : x.inert = true) : lossRecord st x = x := by
  unfold lossRecord
  split
  · rw [if_neg, if_neg]
    · rintro (h | h | h)
      · simp [Slot.inert, h] at hi
      · simp [Slot.inert, h] at hi
      · exact hf h
    · intro h
      simp [Slot.inert, h] at hi
  · rfl

end LossRecord

section OwnerLossOn
variable (st : StationId) (s : State) (i : SlotId)

theorem ownerLossOn_self : (ownerLossOn st s i).slot i = lossRecord st (s.slot i) := by
  unfold ownerLossOn
  by_cases ho : (s.slot i).owner = st
  · rw [if_pos ho]
    cases hx : (s.slot i).state with
    | queued =>
      rw [lossRecord_queued ho hx]
      exact pauseSlot_slot_same i (leaveQueue i s) .ownerLost
    | active =>
      rw [lossRecord_marked ho (.inl hx)]
      exact slot_modSlot_same i (fun x => { x with ownerLost := true }) s
    | stopping =>
      rw [lossRecord_marked ho (.inr (.inl hx))]
      exact slot_modSlot_same i (fun x => { x with ownerLost := true }) s
    | dwelling =>
      rw [lossRecord_marked ho (.inr (.inr hx))]
      exact slot_modSlot_same i (fun x => { x with ownerLost := true }) s
    | free | paused | completed =>
      exact (lossRecord_idle (by rw [hx]; exact nofun) (by rw [Slot.inert, hx]; rfl)).symm
  · rw [if_neg ho, lossRecord_other ho]

theorem ownerLossOn_rel {R : State → State → Prop} (h : SlotReaction i R) : R s (ownerLossOn st s i) := by
  unfold ownerLossOn
  split
  · split
    · exact h.trans (h.leaveQueue s) (h.pauseSlot _ _)
    · exact h.slot _ s
    · exact h.slot _ s
    · exact h.slot _ s
    · exact h.refl s
    · exact h.refl s
    · exact h.refl s
  · exact h.refl s

theorem ownerLossOn_ne (j : SlotId) (hj : j ≠ i) : (ownerLossOn st s i).slot j = s.slot j :=
  (ownerLossOn_rel st s i (othersKept_slotReaction i) j hj).1

theorem ownerLossOn_grant : SameGrant s (ownerLossOn st s i) := by
  have hpause : SameGrant s (pauseSlot i .ownerLost (leaveQueue i s)) :=
    SameGrant.trans (t := leaveQueue i s) ⟨rfl, rfl⟩ (.pauseSlot i .ownerLost _)
  unfold ownerLossOn
  split
  · split
    · exact hpause
    all_goals exact ⟨rfl, rfl⟩
  · exact ⟨rfl, rfl⟩

/-- A slot that does not wait for the lost owner's grant tells nobody. -/
theorem ownerLossOn_silent (h : ¬ ((s.slot i).owner = st ∧ (s.slot i).state = .queued)) :
    SameNotices s (ownerLossOn st s i) := by
  unfold ownerLossOn
  split
  · rename_i ho
    split
    · rename_i hq
      exact absurd ⟨ho, hq⟩ h
    all_goals exact ⟨rfl, rfl⟩
  · exact ⟨rfl, rfl⟩

end OwnerLossOn

section OwnerLoss
variable (st : StationId) (s : State)

theorem ownerLoss_slot (i : SlotId) : (ownerLoss st s).slot i = lossRecord st (s.slot i) := by
  obtain ⟨v, -, -, -, hv, hlost⟩ := foldl_allSlots_slot
    (f := ownerLossOn st) (fun u i j hj => ownerLossOn_ne st u i j hj) i s
  unfold ownerLoss
  rw [hlost, ownerLossOn_self, hv]

theorem ownerLoss_rel {R : State → State → Prop} (h : ∀ i, SlotReaction i R) : R s (ownerLoss st s) := by
  unfold ownerLoss
  induction allSlots generalizing s with
  | nil => exact (h 0).refl s
  | cons i l ih => exact (h 0).trans (ownerLossOn_rel st s i (h i)) (ih _)

theorem ownerLoss_grant : SameGrant s (ownerLoss st s) := by
  unfold ownerLoss
  induction allSlots generalizing s with
  | nil => exact ⟨rfl, rfl⟩
  | cons i l ih => exact (ownerLossOn_grant st s i).trans (ih _)

end OwnerLoss

/-- Slots of a list of which none waits for the lost owner's grant tell nobody. -/
theorem foldl_ownerLossOn_silent (st : StationId) (l : List SlotId) (s : State) (hl : l.Nodup)
    (h : ∀ j ∈ l, ¬ ((s.slot j).owner = st ∧ (s.slot j).state = .queued)) :
    SameNotices s (l.foldl (ownerLossOn st) s) := by
  induction l generalizing s with
  | nil => exact ⟨rfl, rfl⟩
  | cons i l ih =>
    obtain ⟨hi, hnodup⟩ := List.nodup_cons.mp hl
    refine (ownerLossOn_silent st s i (h i List.mem_cons_self)).trans (ih _ hnodup fun j hj => ?_)
    rw [ownerLossOn_ne st s i j (by rintro rfl; exact hi hj)]
    exact h j (List.mem_cons_of_mem i hj)

/-- The one slot that waits for the lost owner's grant tells its stations (R35, R27). -/
theorem ownerLoss_told (st : StationId) (s : State) {i : SlotId} (ho : (s.slot i).owner = st)
    (hq : (s.slot i).state = .queued)
    (honly : ∀ j, j ≠ i → (s.slot j).owner = st → (s.slot j).state ≠ .queued) :
    SameNotices (toldPaused i (s.slot i) .ownerLost s) (ownerLoss st s) := by
  obtain ⟨before, after, hsplit, hb, ha, hne⟩ := allSlots_split i
  have hnodup : (before ++ i :: after).Nodup := hsplit ▸ by decide
  obtain ⟨hnb, hna, -⟩ := List.nodup_append.mp hnodup
  have hone := fun u i j hj => ownerLossOn_ne st u i j hj
  have hbefore : SameNotices s (before.foldl (ownerLossOn st) s) :=
    foldl_ownerLossOn_silent st before s hnb fun j hj h => honly j (hne j (.inl hj)) h.1 h.2
  have hself : (before.foldl (ownerLossOn st) s).slot i = s.slot i := foldl_slot_of_notMem hone hb s
  have hafterSlots (j : SlotId) (hj : j ∈ after) :
      ((ownerLossOn st (before.foldl (ownerLossOn st) s) i).slot j) = s.slot j := by
    have hji : j ≠ i := hne j (.inr hj)
    rw [ownerLossOn_ne _ _ _ _ hji]
    refine foldl_slot_of_notMem hone (fun hjb => ?_) s
    exact (List.nodup_append.mp hnodup).2.2 j hjb j (List.mem_cons_of_mem i hj) rfl
  have hafter := foldl_ownerLossOn_silent st after (ownerLossOn st (before.foldl (ownerLossOn st) s) i)
    (List.nodup_cons.mp hna).2 fun j hj h => by
      rw [hafterSlots j hj] at h
      exact honly j (hne j (.inr hj)) h.1 h.2
  rw [ownerLoss, hsplit, List.foldl_append, List.foldl_cons]
  generalize before.foldl (ownerLossOn st) s = v at hbefore hself hafter
  have hpaused : ownerLossOn st v i = pauseSlot i .ownerLost (leaveQueue i v) := by
    unfold ownerLossOn
    rw [hself, if_pos ho, hq]
  have htold := pauseSlot_notices i (leaveQueue i v) .ownerLost
  rw [leaveQueue_slot, hself] at htold
  rw [hpaused] at hafter ⊢
  exact ((toldPaused_same (t := leaveQueue i v) hbefore i (s.slot i) .ownerLost).trans htold).trans hafter

/-! ## The queue of a station that is not ONLINE -/

/-- A LOST cab's record stands: no notice is placed for it (R161). -/
def CabKept (s t : State) : Prop := s.cab.presenceT = none → t.cab = s.cab

theorem cabKept_of_cab {s t : State} (h : t.cab = s.cab) : CabKept s t := fun _ => h

theorem CabKept.trans {s t u : State} (h : CabKept s t) (g : CabKept t u) : CabKept s u :=
  fun hp => (g (by rw [h hp]; exact hp)).trans (h hp)

theorem place_cabKept (st : StationId) (n : Notice) (s : State) : CabKept s (place st n s) := by
  intro hp
  have hoff : s.cabOnline = false := by rw [State.cabOnline, hp]; rfl
  unfold place
  split
  · unfold placeCab
    rw [hoff]
    rfl
  · unfold placeCrew
    dsimp only
    repeat' split
    all_goals rfl

theorem cabKept_slotReaction (i : SlotId) : SlotReaction i CabKept where
  refl _ _ := rfl
  trans := .trans
  slot _ _ _ := rfl
  queue _ _ _ _ := rfl
  place := place_cabKept
  holder _ _ _ := rfl
  pump _ _ _ _ _ := rfl
  drive _ _ _ _ := rfl
  stroke _ _ _ := rfl
  power _ _ _ _ := rfl

theorem cabKept_closing : Closing CabKept where
  refl _ _ := rfl
  trans := .trans
  grant i s _ := (cabKept_slotReaction i).grant s
  intent _ _ _ := rfl
  warn _ _ _ _ := rfl
  beacons _ _ _ _ := rfl
  sound _ _ := rfl
  send s := cabKept_of_cab (by rw [sendNext_eq])

/-- The queue of a crew station that is not ONLINE stands: no notice is placed for it (R151). -/
def CrewKept (c : CrewId) (s t : State) : Prop :=
  s.crew[c].link ≠ .online → t.crew[c].link = s.crew[c].link ∧ t.crew[c].queue = s.crew[c].queue

theorem crewKept_of_crew {c : CrewId} {s t : State} (h : t.crew = s.crew) : CrewKept c s t :=
  fun _ => by rw [h]; exact ⟨rfl, rfl⟩

theorem CrewKept.trans {c : CrewId} {s t u : State} (h : CrewKept c s t) (g : CrewKept c t u) :
    CrewKept c s u := fun hl =>
  have hst := h hl
  have htu := g (by rw [hst.1]; exact hl)
  ⟨htu.1.trans hst.1, htu.2.trans hst.2⟩

theorem placeCrew_ne {c d : CrewId} (h : d ≠ c) (n : Notice) (s : State) :
    (placeCrew d n s).crew[c] = s.crew[c] := by
  unfold placeCrew
  dsimp only
  split
  · rfl
  · split
    · exact upd_ne _ _ h
    · exact upd_ne _ _ h

theorem place_crewKept (c : CrewId) (st : StationId) (n : Notice) (s : State) : CrewKept c s (place st n s) := by
  intro hl
  unfold place
  split
  · unfold placeCab
    dsimp only
    repeat' split
    all_goals exact ⟨rfl, rfl⟩
  · rename_i d _
    by_cases hd : d = c
    · subst hd
      have hoff : (s.crew[d].link != .online) = true := bne_iff_ne.mpr hl
      unfold placeCrew
      rw [if_pos hoff]
      exact ⟨rfl, rfl⟩
    · rw [placeCrew_ne hd]
      exact ⟨rfl, rfl⟩

theorem crewKept_slotReaction (c : CrewId) (i : SlotId) : SlotReaction i (CrewKept c) where
  refl _ _ := ⟨rfl, rfl⟩
  trans := .trans
  slot _ _ _ := ⟨rfl, rfl⟩
  queue _ _ _ _ := ⟨rfl, rfl⟩
  place := place_crewKept c
  holder _ _ _ := ⟨rfl, rfl⟩
  pump _ _ _ _ _ := ⟨rfl, rfl⟩
  drive _ _ _ _ := ⟨rfl, rfl⟩
  stroke _ _ _ := ⟨rfl, rfl⟩
  power _ _ _ _ := ⟨rfl, rfl⟩

theorem crewKept_closing (c : CrewId) : Closing (CrewKept c) where
  refl _ _ := ⟨rfl, rfl⟩
  trans := .trans
  grant i s _ := (crewKept_slotReaction c i).grant s
  intent _ _ _ := ⟨rfl, rfl⟩
  warn _ _ _ _ := ⟨rfl, rfl⟩
  beacons _ _ _ _ := ⟨rfl, rfl⟩
  sound _ _ := ⟨rfl, rfl⟩
  send s := crewKept_of_crew (by rw [sendNext_eq])

/-- A judgement of Drive-Off enters, leaves or keeps it; an entry stops the holder (R62, R63). -/
theorem judgeDriveOff_rel {R : State → State → Prop} (h : ∀ i, SlotReaction i R)
    (hleave : ∀ s, R s { s with zt := { s.zt with driveOff := false } })
    (henter : ∀ s, R s { s with
      zt := { s.zt with driveOff := true, permitT := none }, tx := { s.tx with due := true } })
    (s : State) : R s (judgeDriveOff s) := by
  unfold judgeDriveOff
  split
  · split
    · exact hleave s
    · exact (h 0).refl s
  · split
    · exact (h 0).trans (henter s) (controlledStop_rel h _ _)
    · exact (h 0).refl s

theorem settle_cabKept (s : State) : CabKept s (settle s) :=
  cabKept_closing.settle (judgeDriveOff_rel cabKept_slotReaction (fun _ _ => rfl) fun _ _ => rfl) s

theorem settle_crewKept (c : CrewId) (s : State) : CrewKept c s (settle s) :=
  (crewKept_closing c).settle
    (judgeDriveOff_rel (crewKept_slotReaction c) (fun _ _ => ⟨rfl, rfl⟩) fun _ _ => ⟨rfl, rfl⟩) s

/-! ## The cab -/

/-- The cab's record and the run being sent as its loss leaves them, before its slots are treated (R157). -/
def cabLeft (s : State) : State :=
  { s with
    cab := { s.cab with presenceT := none, staging := none, queue := [] }
    tx := { s.tx with run := abandonNotices s.tx.run } }

theorem cabLost_eq (s : State) : cabLost s = ownerLoss 0 (cabLeft s) := rfl

/-- Settles O56: the slots by `lossRecord`, the cab's record by `CabKept`. -/
theorem cabPresenceIsTimedAndLost : Obligations.CabPresenceIsTimedAndLost := by
  intro data s
  refine ⟨fun hp => ?_, fun hd => ?_, fun hd => ?_⟩
  · rw [exec_cabPresence, wake_awake hp]
    rfl
  · rw [exec_presenceTimerExpiry, if_neg (by rw [due_iff]; exact hd)]
  · have hexec : exec .presenceTimerExpiry s = .next (settle (ownerLoss 0 (cabLeft s))) := by
      rw [exec_presenceTimerExpiry, if_pos (by rw [due_iff]; exact hd), cabLost_eq]
    have hslot := ownerLoss_slot 0 (cabLeft s)
    have hcab : (ownerLoss 0 (cabLeft s)).cab = (cabLeft s).cab :=
      ownerLoss_rel 0 (cabLeft s) cabKept_slotReaction rfl
    have hkeeps := ownerLoss_rel 0 (cabLeft s) keeps_slotReaction
    have htold (i : SlotId) (ho : (s.slot i).owner = 0) (hq : (s.slot i).state = .queued)
        (honly : ∀ j, j ≠ i → (s.slot j).owner = 0 → (s.slot j).state ≠ .queued) :=
      ownerLoss_told 0 (cabLeft s) (i := i) ho hq honly
    generalize ownerLoss 0 (cabLeft s) = u at hexec hslot hcab hkeeps htold
    have hsettled := settle_settled u
    have htcab : (settle u).cab = { s.cab with presenceT := none, staging := none, queue := [] } :=
      (settle_cabKept u (by rw [hcab]; rfl)).trans hcab
    have hleft : Keeps { s with cab := (cabLeft s).cab } (cabLeft s) := by
      constructor <;> intros <;> rfl
    have hinert (i : SlotId) (x : Slot) (hx : lossRecord 0 (s.slot i) = x) (hi : x.inert = true) :
        (settle u).slot i = x := by
      have hself : u.slot i = x := (hslot i).trans hx
      rw [(hsettled.inert i (by rw [hself]; exact hi)).1, hself]
    refine ⟨u, settle u, hexec, hsettled, htcab, fun i ho hq _ => ?_, fun i ho hdw => ?_,
      fun i ho hq honly => ?_, fun i hi hother => ?_, ?_⟩
    · exact hinert i _ (lossRecord_queued ho hq) rfl
    · refine hinert i _ (lossRecord_marked ho (.inr (.inr hdw))) ?_
      simp [Slot.inert, hdw]
    · rw [htcab]
      exact (toldPaused_same (s := { s with cab := (cabLeft s).cab }) (t := cabLeft s) ⟨rfl, rfl⟩ i
        (s.slot i) .ownerLost).trans (htold i ho hq honly)
    · refine hinert i _ ?_ hi
      rcases hother with ho | hdw
      · exact lossRecord_other ho
      · exact lossRecord_idle hdw hi
    · rw [htcab]
      exact (hleft.trans hkeeps).trans hsettled.toKeeps

end Sys2Proof.Machine
end

section
/-! PROOFS. A miss (R144, R147 to R149). -/

namespace Sys2Proof.Machine

/-! ## The record of the station -/

/-- A miss of a station that is not ABSENT (R147). -/
theorem afterMiss_present {x : Crew} (h : x.link ≠ .absent) : (afterMiss x).good = 0
    ∧ (afterMiss x).miss = (if x.link = .online ∧ 2 ≤ x.miss then 0 else min 3 (x.miss + 1))
    ∧ (afterMiss x).link = (if x.link = .online ∧ 2 ≤ x.miss then .lost else x.link) := by
  have hthird : satInc 3 x.miss = 3 ↔ 2 ≤ x.miss := by unfold satInc; omega
  unfold afterMiss
  cases hl : x.link with
  | absent => exact absurd hl h
  | online =>
    by_cases h2 : 2 ≤ x.miss
    · simp [hthird.mpr h2, h2]
    · simp [h2, satInc]
  | searching => simp [satInc]
  | lost => simp [satInc]

theorem afterMiss_enable (x : Crew) : (afterMiss x).enable = x.enable := by
  unfold afterMiss
  repeat' split
  all_goals rfl

/-! ## The release of the enable -/

theorem controlledStop_slot_ne (o : StopOutcome) {s : State} {i : SlotId} (h : s.arb.holder ≠ some i) :
    (controlledStop o s).slot i = s.slot i := by
  cases hh : s.arb.holder with
  | none =>
    rw [controlledStop_idle o fun j hj => nomatch hh.symm.trans hj]
  | some j =>
    refine ((othersKept_slotReaction j).controlledStop o s hh i ?_).1
    rintro rfl
    exact h hh

/-- The enable stands as set before what its release does. -/
def enableSet (c : CrewId) (held : Bool) (s : State) : State := modCrew c (fun x => { x with enable := held }) s

theorem setEnable_cases (c : CrewId) (held : Bool) (s : State) : setEnable c held s = enableSet c held s
    ∨ setEnable c held s = enableReleased c (enableSet c held s) := by
  unfold setEnable
  dsimp only
  split
  · exact .inr rfl
  · exact .inl rfl

theorem setEnable_keeps (c : CrewId) (held : Bool) (s : State) :
    Keeps (enableSet c held s) (setEnable c held s) := by
  rcases setEnable_cases c held s with h | h <;> rw [h]
  · exact .refl _
  · exact enableReleased_keeps c _

theorem setEnable_slot_ne (c : CrewId) (held : Bool) {s : State} {i : SlotId} (h : s.arb.holder ≠ some i) :
    (setEnable c held s).slot i = s.slot i := by
  rcases setEnable_cases c held s with hs | hs <;> rw [hs]
  · rfl
  · rcases enableReleased_cases c (enableSet c held s) with hr | hr <;> rw [hr]
    · rfl
    · exact controlledStop_slot_ne _ h

/-- The release of a held enable interrupts the holder of a step with H that needs it (R67, R114). -/
theorem setEnable_interrupts {c : CrewId} {s : State} {k : Stroke} {st : Step}
    (he : s.crew[c].enable = true) (hh : s.arb.holder = some k.slot)
    (ha : (s.slot k.slot).state = .active) (hk : s.se.stroke = some k) (hts : (s.axisCfg k.axis).ts ≠ 0)
    (hst : (s.slot k.slot).curStep = some st) (hheld : st.holdToRun = true)
    (hc : (s.slot k.slot).block.confirm = some c) :
    setEnable c false s = stopBegun .interruption k (enableSet c false s) := by
  have hhas : (s.slot k.slot).stepHas (·.holdToRun) = true := by
    rw [Slot.stepHas, hst]
    exact hheld
  have hreleased : enableReleased c (enableSet c false s)
      = controlledStop .interruption (enableSet c false s) := by
    unfold enableReleased
    rw [show (enableSet c false s).arb.holder = some k.slot from hh]
    exact if_pos ⟨ha, hhas, hc⟩
  unfold setEnable
  dsimp only
  rw [he]
  show enableReleased c (enableSet c false s) = _
  rw [hreleased, controlledStop_active _ (s := enableSet c false s) hh hk ha]
  exact if_neg hts

/-! ## A miss -/

/-- The state after the counts and the enable have been judged (R147, R149). -/
def missJudged (c : CrewId) (s : State) : State := setEnable c false (modCrew c afterMiss s)

/-- The state in which the slots of a station that has become LOST are treated (R148). -/
def stationLost (c : CrewId) (s : State) : State :=
  ownerLoss (stationOf c) (modCrew c (fun x => { x with queue := [] }) s)

theorem missed_eq (p : Poll) (s : State) : missed p s
    = if s.crew[p.station].link = .online ∧ (missJudged p.station s).crew[p.station].link = .lost then
        stationLost p.station (missJudged p.station s)
      else missJudged p.station s := rfl

/-- The counts, the link and the enable of the stations after a miss. -/
structure MissCounted (c : CrewId) (s t : State) : Prop where
  enable : t.crew[c].enable = false
  good : t.crew[c].good = (afterMiss s.crew[c]).good
  miss : t.crew[c].miss = (afterMiss s.crew[c]).miss
  link : t.crew[c].link = (afterMiss s.crew[c]).link
  others : ∀ d : CrewId, d ≠ c → t.crew[d].link = s.crew[d].link
    ∧ t.crew[d].enable = s.crew[d].enable ∧ t.crew[d].miss = s.crew[d].miss
  poll : t.poll = s.poll

theorem MissCounted.keeps {c : CrewId} {s t u : State} (h : MissCounted c s t) (g : Keeps t u) :
    MissCounted c s u where
  enable := (g.enable c).trans h.enable
  good := (g.good c).trans h.good
  miss := (g.miss c).trans h.miss
  link := (g.link c).trans h.link
  others d hd := ⟨(g.link d).trans (h.others d hd).1, (g.enable d).trans (h.others d hd).2.1,
    (g.miss d).trans (h.others d hd).2.2⟩
  poll := g.poll.trans h.poll

section Missed
variable (c : CrewId) (s : State)

theorem missJudged_counted : MissCounted c s (missJudged c s) := by
  refine MissCounted.keeps (t := enableSet c false (modCrew c afterMiss s)) ?_ (setEnable_keeps c false _)
  have hself : (enableSet c false (modCrew c afterMiss s)).crew[c]
      = { afterMiss s.crew[c] with enable := false } := by
    rw [enableSet, modCrew_get, if_pos rfl, modCrew_get, if_pos rfl]
  have hother (d : CrewId) (hd : d ≠ c) : (enableSet c false (modCrew c afterMiss s)).crew[d] = s.crew[d] := by
    rw [enableSet, modCrew_get, if_neg (Ne.symm hd), modCrew_get, if_neg (Ne.symm hd)]
  refine ⟨?_, ?_, ?_, ?_, fun d hd => ?_, rfl⟩
  · rw [hself]
  · rw [hself]
  · rw [hself]
  · rw [hself]
  · rw [hother d hd]
    exact ⟨rfl, rfl, rfl⟩

theorem stationLost_keeps : Keeps s (stationLost c s) := by
  have hemptied : Keeps s (modCrew c (fun x => { x with queue := [] }) s) :=
    modCrew_keeps c (fun x => { x with queue := [] }) s fun _ => ⟨rfl, rfl, rfl, rfl, rfl⟩
  unfold stationLost
  exact hemptied.trans (ownerLoss_rel (stationOf c) _ keeps_slotReaction)

theorem stationLost_slot (i : SlotId) : (stationLost c s).slot i = lossRecord (stationOf c) (s.slot i) :=
  ownerLoss_slot _ _ i

theorem stationLost_grant : SameGrant s (stationLost c s) :=
  SameGrant.trans (t := modCrew c (fun x => { x with queue := [] }) s) ⟨rfl, rfl⟩ (ownerLoss_grant _ _)

theorem stationLost_queue (h : s.crew[c].link ≠ .online) : (stationLost c s).crew[c].queue = [] := by
  have hself : (modCrew c (fun x => { x with queue := [] }) s).crew[c] = { s.crew[c] with queue := [] } := by
    rw [modCrew_get, if_pos rfl]
  have hkept := ownerLoss_rel (stationOf c) (modCrew c (fun x => { x with queue := [] }) s)
    (crewKept_slotReaction c) (by rw [hself]; exact h)
  rw [stationLost, hkept.2, hself]

theorem missed_counted (p : Poll) : MissCounted p.station s (missed p s) := by
  rw [missed_eq]
  split
  · exact (missJudged_counted p.station s).keeps (stationLost_keeps _ _)
  · exact missJudged_counted p.station s

end Missed

/-- The two ways to a miss (R144). -/
theorem exec_miss {c : Instr} {p : Poll} {s : State} (hp : awaiting s = some p)
    (hc : c = .replyWindowExpiry ∧ p.window = some 0
      ∨ ∃ frame, c = .reply frame ∧ readReply p.station frame = none) :
    exec c s = .next (nextPoll (settle (missed p s))) := by
  rcases hc with ⟨rfl, hw⟩ | ⟨frame, rfl, hf⟩
  · have hcurrent : s.poll.current = some p := (Option.filter_eq_some_iff.mp hp).1
    have hunanswered : unanswered s = some p :=
      Option.filter_eq_some_iff.mpr ⟨hcurrent, by rw [hw]; rfl⟩
    rw [exec_replyWindowExpiry, hunanswered]
  · rw [exec_reply, hp]
    dsimp only
    rw [takeReply, hf]

/-- Settles O54: the counts by `afterMiss`, the enable by `setEnable_interrupts`, the loss by `lossRecord`. -/
theorem missReleasesTheEnable : Obligations.MissReleasesTheEnable := by
  intro c p s hp hc hpresent
  obtain ⟨hgood, hmiss, hlink⟩ := afterMiss_present hpresent
  have hexec := exec_miss hp hc
  have hcounted := missed_counted s p
  have hjudged := missJudged_counted p.station s
  have hmissed := missed_eq p s
  generalize missed p s = w at hexec hcounted hmissed
  have hsettled := settle_settled w
  have hfinal := hcounted.keeps hsettled.toKeeps
  have hfollows := pollFollows_nextPoll (settle w)
  have hnext := nextPoll_eq (settle w)
  rw [hfinal.poll] at hfollows
  have hcrew : (nextPoll (settle w)).crew = (settle w).crew := by rw [hnext]
  have harb : (nextPoll (settle w)).arb = (settle w).arb := by rw [hnext]
  have hse : (nextPoll (settle w)).se = (settle w).se := by rw [hnext]
  have hslots (i : SlotId) : (nextPoll (settle w)).slot i = (settle w).slot i :=
    slot_congr (by rw [hnext]) i
  generalize nextPoll (settle w) = t at hexec hfollows hcrew harb hse hslots
  have hlost (hoff : t.crew[p.station].link ≠ .online) (hon : s.crew[p.station].link = .online) :
      (missJudged p.station s).crew[p.station].link = .lost
        ∧ w = stationLost p.station (missJudged p.station s) := by
    have hl : (missJudged p.station s).crew[p.station].link = .lost := by
      rw [hcrew, hfinal.link, hlink, hon] at hoff
      rw [hjudged.link, hlink, hon]
      by_cases h2 : 2 ≤ s.crew[p.station].miss
      · rw [if_pos ⟨rfl, h2⟩]
      · rw [if_neg fun h => h2 h.2] at hoff
        exact absurd rfl hoff
    exact ⟨hl, hmissed.trans (if_pos ⟨hon, hl⟩)⟩
  refine ⟨t, hexec, hfollows, ?_, ?_, ?_, ?_, fun hoff hon => ⟨?_, fun i hq hnot ho => ?_⟩,
    fun i k st he hh ha hk hki hts hst hheld hconf => ?_, fun d hd => ?_⟩
  · rw [hcrew]; exact hfinal.enable
  · rw [hcrew]; exact hfinal.good.trans hgood
  · rw [hcrew]; exact hfinal.miss.trans hmiss
  · rw [hcrew]; exact hfinal.link.trans hlink
  · obtain ⟨hl, hw⟩ := hlost hoff hon
    have hempty := stationLost_queue p.station (missJudged p.station s) (by rw [hl]; exact nofun)
    have hwlink : w.crew[p.station].link ≠ .online := by
      rw [hcounted.link, ← hjudged.link, hl]
      exact nofun
    rw [hcrew, (settle_crewKept p.station w hwlink).2, hw, hempty]
  · obtain ⟨hl, hw⟩ := hlost hoff hon
    have hv : (missJudged p.station s).slot i = s.slot i :=
      setEnable_slot_ne p.station false (s := modCrew p.station afterMiss s) hnot
    have hwi : w.slot i = { s.slot i with
        state := .paused, pauseCause := some .ownerLost, ownerLost := false } := by
      rw [hw, stationLost_slot, hv, lossRecord_queued ho hq]
    rw [hslots, (hsettled.inert i (by rw [hwi]; rfl)).1, hwi]
  · subst hki
    have hv : missJudged p.station s
        = stopBegun .interruption k (enableSet p.station false (modCrew p.station afterMiss s)) := by
      refine setEnable_interrupts (s := modCrew p.station afterMiss s) ?_ hh ha hk hts hst hheld hconf
      rw [modCrew_get, if_pos rfl, afterMiss_enable]
      exact he
    have hvslot : (missJudged p.station s).slot k.slot
        = { s.slot k.slot with state := .stopping, interrupted := true } := by
      rw [hv, stopBegun_slot]
      rfl
    have hvarb : (missJudged p.station s).arb = s.arb := by rw [hv]; rfl
    have hvstroke : (missJudged p.station s).se.stroke = some (stoppingStroke s k) := by rw [hv]; rfl
    have hgrant : SameGrant (missJudged p.station s) w := by
      rw [hmissed]
      split
      · exact stationLost_grant _ _
      · exact ⟨rfl, rfl⟩
    have hwslot : w.slot k.slot = { s.slot k.slot with
        state := .stopping, interrupted := true
        ownerLost := (s.slot k.slot).ownerLost
          || (s.crew[p.station].link == .online && t.crew[p.station].link == .lost
            && (s.slot k.slot).owner == stationOf p.station) } := by
      rw [hcrew, hfinal.link, ← hjudged.link, hmissed]
      by_cases hl : s.crew[p.station].link = .online ∧ (missJudged p.station s).crew[p.station].link = .lost
      · rw [if_pos hl, stationLost_slot, lossRecord_stopping (by rw [hvslot]), hvslot, hl.1, hl.2]
        rfl
      · rw [if_neg hl, hvslot]
        have hno : (s.crew[p.station].link == .online
            && (missJudged p.station s).crew[p.station].link == .lost) = false := by
          rw [Bool.eq_false_iff, Ne, Bool.and_eq_true, beq_iff_eq, beq_iff_eq]
          exact hl
        rw [hno]
        simp
    have hwholder : w.arb.holder = some k.slot := by rw [hgrant.1, hvarb]; exact hh
    obtain ⟨hsm, harb', hse', -⟩ := hsettled.steady
      (.inr ⟨k.slot, hwholder, .inl (by rw [hwslot]; exact nofun)⟩)
    refine ⟨?_, ?_, ?_⟩
    · rw [hslots, slot_congr (congrArg SeqManager.slots hsm) k.slot, hwslot]
    · rw [harb, harb']; exact hwholder
    · rw [hse, hse', hgrant.2, hvstroke]
  · rw [hcrew]; exact hfinal.others d hd

end Sys2Proof.Machine
end

section
/-! PROOFS. The staging buffer (R159, R160) and the transmitter (R161, R162). -/

namespace Sys2Proof.Machine

/-! ## The staging buffer -/

section Staging
variable {s : State} (data : List Byte)

theorem exec_first_empty (h : Reaches .cab s) (hg : s.cab.staging = none) :
    exec (.firstSegment data) s = .next (openRun data s) := by
  obtain ⟨honline, hp⟩ := h
  rw [exec_firstSegment, wake_awake hp, ifCab, if_pos honline, takeFirst, hg]

theorem exec_first_gathering (h : Reaches .cab s) {g : Staging} (hg : s.cab.staging = some g) :
    exec (.firstSegment data) s = .next (openRun data (failRun g .newFirst s)) := by
  obtain ⟨honline, hp⟩ := h
  rw [exec_firstSegment, wake_awake hp, ifCab, if_pos honline, takeFirst, hg]

theorem exec_data (h : Reaches .cab s) : exec (.dataSegment data) s = .next (takeData data s) := by
  obtain ⟨honline, hp⟩ := h
  rw [exec_dataSegment, wake_awake hp, ifCab, if_pos honline]

theorem failRun_eq (g : Staging) (f : SegFailure) (s : State) : failRun g f s
    = answered .cab g.kind .segment (.segment g.kind f) { s with cab := { s.cab with staging := none } } := rfl

/-- A refusal SEGMENT leaves the link, and the buffer EMPTY. -/
theorem failRun_reaches (h : Reaches .cab s) (g : Staging) (f : SegFailure) :
    Reaches .cab (failRun g f s) ∧ (failRun g f s).cab.staging = none := by
  obtain ⟨honline, hp⟩ := h
  have hkeeps : Keeps (setStaging none s) (failRun g f s) :=
    (place_keeps 0 (.answer g.kind .segment (.segment g.kind f)) (setStaging none s)).trans (sendNext_keeps _)
  have hsup : (failRun g f s).sup = s.sup := by
    rw [failRun, refuseSegment, sendNext_eq]
    exact place_sup 0 _ (setStaging none s)
  refine ⟨⟨?_, ?_⟩, hkeeps.staging⟩
  · rw [State.cabOnline, hkeeps.presenceT]
    exact honline
  · rw [State.parked, hsup]
    exact hp

theorem openRun_begins (hl : 4 ≤ data.length) (ht : 0 < u16 data 2)
    (hk : (data.getD 1 0 = 1 ∧ u16 data 2 ≤ 156) ∨ (data.getD 1 0 = 17 ∧ u16 data 2 ≤ 576)) :
    openRun data s = setStaging (some (Staging.mk (data.getD 1 0) (u16 data 2) [] 1 1000)) s := by
  have hbegins (limit : Nat) (hlim : runLimit (data.getD 1 0) = some limit) (hle : u16 data 2 ≤ limit) :
      openRun data s = setStaging (some (Staging.mk (data.getD 1 0) (u16 data 2) [] 1 1000)) s := by
    unfold openRun
    dsimp only
    rw [hlim]
    dsimp only
    rw [if_neg (by omega)]
    rfl
  rcases hk with ⟨hk, hle⟩ | ⟨hk, hle⟩
  · exact hbegins 156 (by rw [hk]; rfl) hle
  · exact hbegins 576 (by rw [hk]; rfl) hle

theorem openRun_refused (h : data.length < 4 ∨ (data.getD 1 0 ≠ 1 ∧ data.getD 1 0 ≠ 17) ∨ u16 data 2 = 0
    ∨ (data.getD 1 0 = 1 ∧ 156 < u16 data 2) ∨ (data.getD 1 0 = 17 ∧ 576 < u16 data 2)) :
    openRun data s = refuseSegment (data.getD 1 0) .length s := by
  have hrefused (hbad : ∀ limit, runLimit (data.getD 1 0) = some limit →
      data.length < 4 ∨ u16 data 2 = 0 ∨ limit < u16 data 2) :
      openRun data s = refuseSegment (data.getD 1 0) .length s := by
    unfold openRun
    dsimp only
    split
    · rfl
    · rename_i limit hlim
      rw [if_pos (hbad limit hlim)]
  refine hrefused fun limit hlim => ?_
  rcases h with h | ⟨h1, h17⟩ | h | ⟨h1, hlt⟩ | ⟨h17, hlt⟩
  · exact .inl h
  · have hnone : runLimit (data.getD 1 0) = none := (if_neg h1).trans (if_neg h17)
    exact nomatch hnone.symm.trans hlim
  · exact .inr (.inl h)
  · rw [h1] at hlim
    cases hlim
    exact .inr (.inr hlt)
  · rw [h17] at hlim
    cases hlim
    exact .inr (.inr hlt)

section Gathering
variable {g : Staging} (hg : s.cab.staging = some g)
include hg

theorem takeData_short (hl : data.length < 7) : takeData data s = failRun g .length s := by
  unfold takeData
  rw [hg]
  exact if_pos hl

theorem takeData_wrongIndex (hl : 7 ≤ data.length) (hi : (data.getD 0 0).toNat ≠ g.next) :
    takeData data s = failRun g .wrongIndex s := by
  unfold takeData
  rw [hg]
  dsimp only
  rw [if_neg (by omega)]
  exact if_pos hi

/-- A data segment with the index expected adds its six bytes. -/
theorem takeData_taken (hl : 7 ≤ data.length) (hi : (data.getD 0 0).toNat = g.next) : takeData data s
    = if dataFrames g.total < g.next + 1 then
        handRun { g with bytes := g.bytes ++ (data.drop 1).take 6, next := g.next + 1, gapT := gapMs } s
      else setStaging
        (some { g with bytes := g.bytes ++ (data.drop 1).take 6, next := g.next + 1, gapT := gapMs }) s := by
  unfold takeData
  rw [hg]
  dsimp only
  rw [if_neg (by omega)]
  exact if_neg fun hne => hne hi

end Gathering

/-- A complete run is handed over as the request it carries. -/
theorem handRun_exec (h : Reaches .cab s) (g : Staging) : Host.Outcome.next (handRun g s)
    = exec (if g.kind = 1 then .submit .cab (g.bytes.take g.total)
        else .writeConfiguration .cab (g.bytes.take g.total))
      { s with cab := { s.cab with staging := none } } := by
  have hr : Reaches .cab { s with cab := { s.cab with staging := none } } := h
  unfold handRun
  dsimp only
  by_cases hk : g.kind = 1
  · rw [if_pos hk, exec_submit, viaLink_reaches hr, if_pos (show g.kind = kindSubmit from hk)]
    rfl
  · rw [if_neg hk, exec_writeConfiguration, viaLink_reaches hr, if_neg (show ¬ g.kind = kindSubmit from hk)]
    rfl

end Staging

/-- Settles O57: a first segment by `openRun`, a data segment by `takeData`, a failure by `failRun`. -/
theorem segmentsAreGathered : Obligations.SegmentsAreGathered := by
  intro data s
  refine ⟨fun hr hg hl ht hk => ?_, fun hr hg hbad => ?_, fun g hr hg => ?_, fun hr hg => ?_,
    fun g hr hg hl hi hn => ?_, fun g hr hg hl hi hn => ?_, fun g hr hg hl hi => ?_, fun g hr hg hl => ?_,
    fun g hg hn => ?_, fun g hg hz => ?_⟩
  · rw [exec_first_empty data hr hg, openRun_begins data hl ht hk]
    rfl
  · rw [exec_first_empty data hr hg, openRun_refused data hbad]
    rfl
  · obtain ⟨hreaches, hempty⟩ := failRun_reaches hr g .newFirst
    rw [exec_first_gathering data hr hg, ← failRun_eq, exec_first_empty data hreaches hempty]
  · rw [exec_data data hr, takeData, hg]
  · rw [exec_data data hr, takeData_taken data hg hl hi, if_neg (by omega)]
    rfl
  · rw [exec_data data hr, takeData_taken data hg hl hi, if_pos (by omega), handRun_exec hr]
  · rw [exec_data data hr, takeData_wrongIndex data hg hl hi, failRun_eq]
  · rw [exec_data data hr, takeData_short data hg hl, failRun_eq]
  · rw [exec_gapTimerExpiry, hg]
    dsimp only
    rw [if_neg hn]
  · rw [exec_gapTimerExpiry, hg]
    dsimp only
    rw [if_pos hz, failRun_eq]

/-! ## The transmitter -/

/-- The cab queue after the last frame of a run (R161). -/
def queueAfter (r : TxRun) (q : List (Byte × Notice)) : List (Byte × Notice) :=
  if r.abandoned then q
  else match r.content with
    | .notice _ => afterSent r.number q
    | .partStatus _ _ _ => q

theorem queueAfter_notice {r : TxRun} {n : Notice} {rest : List (Byte × Notice)} (ha : r.abandoned = false)
    (hn : r.content = .notice n) : queueAfter r ((r.number, n) :: rest) = rest := by
  rw [queueAfter, ha, if_neg Bool.false_ne_true, hn]
  exact if_pos rfl

theorem queueAfter_abandoned {r : TxRun} (ha : r.abandoned = true) (q : List (Byte × Notice)) :
    queueAfter r q = q := if_pos ha

theorem queueAfter_partStatus {r : TxRun} {summary : Summary} {alert : Bool} {faults : BitVec 32}
    (hc : r.content = .partStatus summary alert faults) (q : List (Byte × Notice)) : queueAfter r q = q := by
  rw [queueAfter, hc]
  exact ite_self _

/-- The state after the last frame of a run, with the transmitter free. -/
def runEnded (r : TxRun) (s : State) : State :=
  { s with cab := { s.cab with queue := queueAfter r s.cab.queue }, tx := { s.tx with run := none } }

theorem frameAcknowledged_ended {r : TxRun} (h : r.abandoned = true ∨ r.atLast = true) (s : State) :
    frameAcknowledged r s = runEnded r s := by
  unfold frameAcknowledged runEnded queueAfter
  by_cases ha : r.abandoned = true
  · rw [if_pos ha, if_pos ha]
  · rw [if_neg ha, if_pos (h.resolve_left ha), if_neg ha]
    dsimp only
    cases r.content <;> rfl

/-- A free transmitter with no Part Status to send begins the notice at the head of the queue, if there is
one (R161). -/
theorem sendNext_notice {s : State} (h : s.tx.run = none) (hd : s.tx.due = false ∨ s.parked = true) :
    (sendNext s).tx = { s.tx with
      run := s.cab.queue.head?.map fun m => TxRun.mk (.notice m.2) m.1 s.cfg.canBase 0 false } := by
  have hnone : (s.tx.due && !s.parked) = false := by
    rcases hd with hd | hd <;> rw [hd]
    · rfl
    · exact Bool.and_false _
  rw [sendNext, h, hnone]
  cases hq : s.cab.queue with
  | nil => exact congrArg (fun r => { s.tx with run := r }) h
  | cons m rest => rfl

/-- The period starts again, and a Part Status is due (R162). -/
def periodRestarted (s : State) : State :=
  { s with tx := { s.tx with due := true, periodT := some partStatusMs } }

/-- Settles O58: the end of a run by `runEnded`, what follows by `sendNext`. -/
theorem transmitterSendsRunsInOrder : Obligations.TransmitterSendsRunsInOrder := by
  intro s
  have hrestarted : ({ s with tx := { s.tx with due := true, periodT := some partStatusMs } } : State)
      = periodRestarted s := rfl
  refine ⟨fun r hr => ⟨?_, fun ha hl => ?_, fun hend => ?_⟩, fun hd => ?_, fun hd => ⟨fun hr => ?_,
    fun hr hp => ?_⟩⟩
  · rw [exec_canFrameTransmitted, hr]
    rfl
  · rw [exec_canFrameTransmitted, hr]
    dsimp only
    rw [if_pos rfl, frameAcknowledged, ha, if_neg Bool.false_ne_true, hl, if_neg Bool.false_ne_true,
      sendNext_busy (by exact nofun)]
  · have hexec : exec (.canFrameTransmitted true) s = .next (sendNext (runEnded r s)) := by
      rw [exec_canFrameTransmitted, hr]
      dsimp only
      rw [if_pos rfl, frameAcknowledged_ended hend]
    have heq := sendNext_eq (runEnded r s)
    have hqueue : (sendNext (runEnded r s)).cab.queue = queueAfter r s.cab.queue := by rw [heq]; rfl
    refine ⟨_, hexec, ?_, fun ha => ?_, fun n rest ha hc hq => ?_, fun summary alert faults hc => ?_,
      fun hdue hp => ?_, fun hdue => ?_⟩
    · rw [hqueue]
      exact heq
    · rw [hqueue, queueAfter_abandoned ha]
    · rw [hqueue, hq, queueAfter_notice ha hc]
    · rw [hqueue, queueAfter_partStatus hc]
    · rw [sendNext_due (s := runEnded r s) rfl hdue hp]
      rfl
    · rw [hqueue, sendNext_notice (s := runEnded r s) rfl hdue]
      rfl
  · rw [exec_partStatusPeriodExpiry, if_neg (by rw [due_iff]; exact hd)]
  · rw [exec_partStatusPeriodExpiry, if_pos (by rw [due_iff]; exact hd), hrestarted, sendNext_busy (s := periodRestarted s) hr]
    rfl
  · rw [exec_partStatusPeriodExpiry, if_pos (by rw [due_iff]; exact hd), hrestarted, sendNext_due (s := periodRestarted s) hr rfl hp]
    rfl

end Sys2Proof.Machine
end

section
/-! PROOFS. The chassis status (R156): the vehicle condition, the engine, the ignition and Drive-Off (R61 to
R63). -/

namespace Sys2Proof.Machine

/-! ## The transmitter's record under notices -/

/-- The Part Status data stands, and a run being sent goes on or stops after its frame. -/
structure TxKept (s t : State) : Prop where
  due : t.tx.due = s.tx.due
  count : t.tx.count = s.tx.count
  periodT : t.tx.periodT = s.tx.periodT
  run : t.tx.run.isSome = s.tx.run.isSome

namespace TxKept

theorem of_tx {s t : State} (h : t.tx = s.tx) : TxKept s t :=
  ⟨by rw [h], by rw [h], by rw [h], by rw [h]⟩

theorem trans {s t u : State} (h : TxKept s t) (g : TxKept t u) : TxKept s u :=
  ⟨g.due.trans h.due, g.count.trans h.count, g.periodT.trans h.periodT, g.run.trans h.run⟩

theorem place (st : StationId) (n : Notice) (s : State) : TxKept s (place st n s) := by
  have habandon (number : Byte) (run : Option TxRun) :
      (abandonNotice number run).isSome = run.isSome := Option.isSome_map
  unfold Machine.place placeCab placeCrew
  dsimp only
  repeat' split
  all_goals first
    | exact .of_tx rfl
    | exact ⟨rfl, rfl, rfl, habandon _ _⟩

theorem slotReaction (i : SlotId) : SlotReaction i TxKept where
  refl _ := .of_tx rfl
  trans := .trans
  slot _ _ := .of_tx rfl
  queue _ _ _ := .of_tx rfl
  place := place
  holder _ _ := .of_tx rfl
  pump _ _ _ _ := .of_tx rfl
  drive _ _ _ := .of_tx rfl
  stroke _ _ := .of_tx rfl
  power _ _ _ := .of_tx rfl

/-- A free transmitter's record stands. -/
theorem idle {s t : State} (h : TxKept s t) (hr : s.tx.run = none) : t.tx = s.tx := by
  have hrun : t.tx.run = none := by
    have hsome := h.run
    rw [hr] at hsome
    exact Option.isNone_iff_eq_none.mp (by rw [← Option.not_isSome, hsome]; rfl)
  obtain ⟨hdue, hcount, hperiod, -⟩ := h
  cases ht : t.tx
  cases hs : s.tx
  simp only [ht, hs] at hrun hr hdue hcount hperiod
  rw [hrun, hr, hdue, hcount, hperiod]

end TxKept

/-! ## Motion that Drive-Off finds -/

/-- A zone is OPEN, or a slot is QUEUED, STOPPING or ACTIVE, the last with a Ts above 0, so that its stop does
not end it in the event. -/
def MotionHeld (s : State) : Prop :=
  anyOpen s = true ∨ ∃ i, (s.slot i).state = .queued ∨ (s.slot i).state = .stopping
    ∨ ((s.slot i).state = .active ∧ ∀ k, s.se.stroke = some k → (s.axisCfg k.axis).ts ≠ 0)

theorem MotionHeld.congr {s t : State} (h : MotionHeld s) (hsm : t.sm = s.sm)
    (hp : t.zt.position = s.zt.position) (hk : t.se.stroke = s.se.stroke) (hcfg : t.cfg = s.cfg) :
    MotionHeld t := by
  have hopen : anyOpen t = anyOpen s := by rw [anyOpen, anyOpen, hp]
  have hslot (i : SlotId) : t.slot i = s.slot i := slot_congr (congrArg SeqManager.slots hsm) i
  have haxis : t.axisCfg = s.axisCfg := by funext a; rw [State.axisCfg, State.axisCfg, hcfg]
  rw [MotionHeld, hopen, hk, haxis]
  simp only [hslot]
  exact h

theorem insecure_iff (s : State) : insecure s = true ↔ anyOpen s = true
    ∨ ∃ i, (s.slot i).state = .queued ∨ (s.slot i).state = .active ∨ (s.slot i).state = .stopping := by
  simp only [insecure, Bool.or_eq_true, List.any_eq_true, mem_allSlots, true_and, Slot.inMotionSet, beq_iff_eq,
    or_assoc]

theorem MotionHeld.insecure {s : State} (h : MotionHeld s) : insecure s = true := by
  rw [insecure_iff]
  rcases h with h | ⟨i, h | h | h⟩
  · exact .inl h
  · exact .inr ⟨i, .inl h⟩
  · exact .inr ⟨i, .inr (.inr h)⟩
  · exact .inr ⟨i, .inr (.inl h.1)⟩

/-- A stop that does not end in the event leaves its slot STOPPING; one that does is of another slot. -/
theorem MotionHeld.controlledStop {s : State} (h : MotionHeld s) (o : StopOutcome) :
    MotionHeld (controlledStop o s) := by
  have hopen : anyOpen (Machine.controlledStop o s) = anyOpen s := by
    rw [anyOpen, anyOpen, (controlledStop_rel keeps_slotReaction o s).position]
  by_cases hidle : ∃ k, s.arb.holder = some k.slot ∧ s.se.stroke = some k ∧ (s.slot k.slot).state = .active
  · obtain ⟨k, hh, hk, ha⟩ := hidle
    have hstop := controlledStop_active o hh hk ha
    by_cases hts : (s.axisCfg k.axis).ts = 0
    · rcases h with h | ⟨i, h⟩
      · exact .inl (hopen.trans h)
      · have hne : i ≠ k.slot := by
          rintro rfl
          rcases h with h | h | h
          · exact nomatch ha.symm.trans h
          · exact nomatch ha.symm.trans h
          · exact h.2 k hk hts
        have hslot : (Machine.controlledStop o s).slot i = s.slot i :=
          controlledStop_slot_ne o (by rw [hh]; exact fun he => hne (Option.some.inj he).symm)
        refine .inr ⟨i, ?_⟩
        rw [hslot]
        rcases h with h | h | h
        · exact .inl h
        · exact .inr (.inl h)
        · exact absurd hts (h.2 k hk)
    · rw [if_neg hts] at hstop
      refine .inr ⟨k.slot, .inr (.inl ?_)⟩
      rw [hstop, stopBegun_slot]
      cases o <;> rfl
  · have hsame : Machine.controlledStop o s = s := by
      unfold Machine.controlledStop
      split
      · rename_i i k hh hk
        rw [if_neg]
        rintro ⟨ha, rfl⟩
        exact hidle ⟨k, hh, hk, ha⟩
      · rfl
    rw [hsame]
    exact h

/-! ## What a chassis event leaves alone -/

/-- What the reactions to a chassis status keep, up to the judgement of Drive-Off. -/
structure ChassisKept (s t : State) : Prop where
  sensors : t.sensors = s.sensors
  blocks : t.zt.blocks = s.zt.blocks
  position : t.zt.position = s.zt.position
  hold : t.arb.hold = s.arb.hold
  loop : t.loop = s.loop
  cfg : t.cfg = s.cfg
  store : t.store = s.store
  lines : t.lines = s.lines
  permit : PermitKept s t
  tx : TxKept s t
  awake : s.parked = false → t.parked = false
  inert : InertKept s t
  motion : MotionHeld s → MotionHeld t

namespace ChassisKept

theorem refl (s : State) : ChassisKept s s :=
  ⟨rfl, rfl, rfl, rfl, rfl, rfl, rfl, rfl, ⟨rfl, rfl⟩, .of_tx rfl, id, .of_sm rfl, id⟩

theorem trans {s t u : State} (h : ChassisKept s t) (g : ChassisKept t u) : ChassisKept s u where
  sensors := g.sensors.trans h.sensors
  blocks := g.blocks.trans h.blocks
  position := g.position.trans h.position
  hold := g.hold.trans h.hold
  loop := g.loop.trans h.loop
  cfg := g.cfg.trans h.cfg
  store := g.store.trans h.store
  lines := g.lines.trans h.lines
  permit := h.permit.trans g.permit
  tx := h.tx.trans g.tx
  awake hp := g.awake (h.awake hp)
  inert := h.inert.trans g.inert
  motion hm := g.motion (h.motion hm)

theorem controlledStop (o : StopOutcome) (s : State) : ChassisKept s (controlledStop o s) :=
  have hkeeps := controlledStop_rel keeps_slotReaction o s
  { hkeeps with
    permit := controlledStop_rel permitKept_slotReaction o s
    tx := controlledStop_rel TxKept.slotReaction o s
    awake := (SupJudged.controlledStop o s).awake
    inert := controlledStop_inert o s
    motion := fun hm => hm.controlledStop o }

theorem judgeVehicle (held : Bool) (s : State) : ChassisKept s (judgeVehicle held s) := by
  unfold Machine.judgeVehicle
  split
  · exact .controlledStop _ s
  · exact .refl s

/-- The vehicle's content, the flags and the supply record may stand anew, with the power state awake. -/
theorem of_record {s t : State} (h : t = { s with
    veh := t.veh, faults := t.faults, sup := t.sup, se := { s.se with drives := t.se.drives } })
    (hp : s.parked = false → t.parked = false) : ChassisKept s t := by
  refine ⟨?_, ?_, ?_, ?_, ?_, ?_, ?_, ?_, ⟨?_, ?_⟩, .of_tx ?_, hp, .of_sm ?_, fun hm => hm.congr ?_ ?_ ?_ ?_⟩
  all_goals rw [h]

theorem slots_at_rest {s t : State} (h : ChassisKept s t) (ho : anyOpen s = false)
    (hs : ∀ i, (s.slot i).state ≠ .queued ∧ (s.slot i).state ≠ .active ∧ (s.slot i).state ≠ .stopping) :
    Machine.insecure t = false := by
  rw [Bool.eq_false_iff, Ne, insecure_iff]
  rintro (hopen | ⟨i, hi⟩)
  · rw [anyOpen, h.position] at hopen
    exact nomatch ho.symm.trans hopen
  · obtain ⟨hq, ha, hst⟩ := hs i
    have hinert : (s.slot i).inert = true := by
      unfold Slot.inert
      cases hx : (s.slot i).state with
      | free | paused | dwelling | completed => rfl
      | queued => exact absurd hx hq
      | active => exact absurd hx ha
      | stopping => exact absurd hx hst
    rw [(h.inert i hinert).1] at hi
    rcases hi with hi | hi | hi
    · exact hq hi
    · exact ha hi
    · exact hst hi

end ChassisKept

/-! ## The engine and the ignition -/

/-- The engine runs: NORMAL at once, and no start time; a stroke in STOPPING at most has its level computed
anew (R165, R103). -/
theorem engineHanded_running {s : State} (h : engineRunning s = true) : ∃ d, engineHanded s = { s with
    sup := { s.sup with
      supply := .normal, belowNormal := none, belowExh := none, aboveExh := none, aboveNormal := none }
    se := { s.se with drives := d } } := by
  unfold engineHanded
  rw [if_pos h]
  generalize hu : ({ s with sup := { s.sup with
    belowNormal := none, belowExh := none, aboveExh := none, aboveNormal := none } } : State) = u
  by_cases hnormal : u.sup.supply = .normal
  · refine ⟨s.se.drives, ?_⟩
    have hsupply : s.sup.supply = .normal := by rw [← hu] at hnormal; exact hnormal
    unfold changeSupply
    rw [if_pos hnormal.symm, ← hu, ← hsupply]
  · have hrunOn : runOnCut .normal u = u.arb := if_neg fun h => h.1 rfl
    rcases changeSupply_other (Ne.symm hnormal) hnormal with hc | ⟨k, hc⟩
    · refine ⟨s.se.drives, ?_⟩
      rw [hc, supplied, hrunOn, ← hu]
    · rw [hc]
      refine ⟨(rampLevelNow k (supplied .normal u)).se.drives, ?_⟩
      unfold rampLevelNow supplied
      rw [hrunOn, ← hu]
      rfl

theorem engineHanded_off {s : State} (h : engineRunning s = false) : engineHanded s = s := by
  unfold engineHanded
  rw [h]
  rfl

theorem engineHanded_stroke (s : State) : (engineHanded s).se.stroke = s.se.stroke
    ∧ (engineHanded s).sm = s.sm ∧ (engineHanded s).arb = s.arb ∧ (engineHanded s).veh = s.veh
    ∧ (engineHanded s).zt = s.zt := by
  cases h : engineRunning s with
  | true =>
    obtain ⟨d, hd⟩ := engineHanded_running h
    rw [hd]
    exact ⟨rfl, rfl, rfl, rfl, rfl⟩
  | false =>
    rw [engineHanded_off h]
    exact ⟨rfl, rfl, rfl, rfl, rfl⟩

theorem ChassisKept.engineHanded (s : State) : ChassisKept s (engineHanded s) := by
  cases h : engineRunning s with
  | true =>
    obtain ⟨d, hd⟩ := engineHanded_running h
    rw [hd]
    exact .of_record rfl id
  | false =>
    rw [engineHanded_off h]
    exact .refl s

theorem judgeIgnition_sup (before : Bool) (s : State) :
    judgeIgnition before s = { s with sup := (judgeIgnition before s).sup } := by
  unfold judgeIgnition
  split
  · rfl
  · rw [judgePower_eq]

theorem judgeIgnition_judged (before : Bool) (s : State) : SupJudged s (judgeIgnition before s) := by
  unfold judgeIgnition
  split
  · exact .inl rfl
  · exact .inr ⟨s, rfl, rfl⟩

theorem judgeIgnition_keeps (before : Bool) (s : State) : Keeps s (judgeIgnition before s) := by
  unfold judgeIgnition
  split
  · exact .refl s
  · exact (keeps_slotReaction 0).judgePower s

theorem ChassisKept.judgeIgnition (before : Bool) (s : State) : ChassisKept s (judgeIgnition before s) :=
  .of_record (by rw [judgeIgnition_sup]) (judgeIgnition_judged before s).awake

end Sys2Proof.Machine
end

section
/-! PROOFS. Drive-Off in the closing of a command (R62, R63, R162), and the statement on the chassis status. -/

namespace Sys2Proof.Machine

/-! ## The judgement of Drive-Off -/

/-- The state at an entry into Drive-Off, before the holder is stopped (R63). -/
def driveOffEntered (s : State) : State :=
  { s with zt := { s.zt with driveOff := true, permitT := none }, tx := { s.tx with due := true } }

section Judgement
variable {s : State}

theorem judgeDriveOff_stays (hd : s.zt.driveOff = true) (hv : roadSpeed s ≠ 0) (hi : insecure s = true) :
    judgeDriveOff s = s := by
  unfold judgeDriveOff
  rw [if_pos hd, if_neg]
  rintro (h | h)
  · exact hv h
  · exact nomatch hi.symm.trans h

theorem judgeDriveOff_leaves (hd : s.zt.driveOff = true) (h : roadSpeed s = 0 ∨ insecure s = false) :
    judgeDriveOff s = withDriveOff false s := by
  unfold judgeDriveOff
  rw [if_pos hd, if_pos h]
  rfl

theorem judgeDriveOff_off (hd : s.zt.driveOff = false) (h : roadSpeed s < 3 ∨ insecure s = false) :
    judgeDriveOff s = s := by
  unfold judgeDriveOff
  rw [hd, if_neg Bool.false_ne_true, if_neg]
  rintro ⟨hv, hi⟩
  rcases h with h | h
  · exact absurd hv (Nat.not_le.mpr h)
  · exact nomatch hi.symm.trans h

theorem judgeDriveOff_enters (hd : s.zt.driveOff = false) (hv : 3 ≤ roadSpeed s) (hi : insecure s = true) :
    judgeDriveOff s = controlledStop (.ending .vehicle) (driveOffEntered s) := by
  unfold judgeDriveOff
  rw [hd, if_neg Bool.false_ne_true, if_pos ⟨hv, hi⟩]
  rfl

/-- At rest Drive-Off is left or stays off. -/
theorem judgeDriveOff_clear (h : roadSpeed s = 0 ∨ insecure s = false) :
    judgeDriveOff s = withDriveOff false s := by
  cases hd : s.zt.driveOff with
  | true => exact judgeDriveOff_leaves hd h
  | false =>
    rw [judgeDriveOff_off hd (h.imp_left fun hv => by omega), withDriveOff, ← hd]

end Judgement

/-- The closing keeps the Drive-Off state and the permit that its two judgements leave. -/
theorem settle_permitKept (s : State) : PermitKept (judgeDriveOff (judgeDriveOff s)) (settle s) :=
  permitKept_closing.afterDriveOff _

/-! ## No grant without the vehicle condition -/

theorem vehicleOk_of_eligible {s : State} {i : SlotId} (h : eligible s i = true) : vehicleOk s = true := by
  obtain ⟨st, a, -, -, hmotion, -⟩ := (blockReason_eq_none s _).mp ((eligible_iff s i).mp h).2
  exact ((permitReason_eq_none s _ st a).mp ((motionReason_eq_none s _ st a).mp hmotion).2).1

theorem grantLoop_noVehicle {s : State} (h : vehicleOk s = false) (n : Nat) :
    grantLoop n s = deriveIntent s := by
  have hveh : vehicleOk (deriveIntent s) = vehicleOk s := by
    simp only [vehicleOk, State.fresh, deriveIntent_veh]
  have hnone : grantChoice (deriveIntent s) = none := by
    cases hc : grantChoice (deriveIntent s) with
    | none => rfl
    | some i =>
      have hok := vehicleOk_of_eligible (eligible_of_grantChoice hc)
      rw [hveh, h] at hok
      exact absurd hok Bool.false_ne_true
  cases n with
  | zero => rfl
  | succ n => rw [grantLoop_succ, grantOnce, hnone]

/-! ## The entry -/

section Shown
variable (s : State)

theorem showAll_tx : (showAll s).tx = s.tx := rfl
theorem showAll_cfg : (showAll s).cfg = s.cfg := rfl
theorem showAll_parked : (showAll s).parked = s.parked := rfl
theorem showAll_driveOff : (showAll s).zt.driveOff = s.zt.driveOff := rfl

theorem deriveIntent_tx : (deriveIntent s).tx = s.tx := by rw [deriveIntent_only s]
theorem deriveIntent_parked : (deriveIntent s).parked = s.parked := by
  rw [State.parked, State.parked, deriveIntent_only s]
theorem deriveIntent_driveOff : (deriveIntent s).zt.driveOff = s.zt.driveOff := by rw [deriveIntent_only s]

theorem shown_tx : (showAll (deriveIntent s)).tx = s.tx := (showAll_tx _).trans (deriveIntent_tx s)
theorem shown_cfg : (showAll (deriveIntent s)).cfg = s.cfg := (showAll_cfg _).trans (deriveIntent_cfg s)
theorem shown_parked : (showAll (deriveIntent s)).parked = s.parked :=
  (showAll_parked _).trans (deriveIntent_parked s)
theorem shown_driveOff : (showAll (deriveIntent s)).zt.driveOff = s.zt.driveOff :=
  (showAll_driveOff _).trans (deriveIntent_driveOff s)

end Shown

/-- A due Part Status with Drive-Off ON begins as its run, composed of the state that the run leaves (R162). -/
theorem sendNext_driveOff {x t : State} (ht : t = sendNext x) (hr : x.tx.run = none) (hdue : x.tx.due = true)
    (hp : x.parked = false) (hon : x.zt.driveOff = true) :
    t.tx = { x.tx with
      run := some (TxRun.mk (.partStatus (summaryOf t) true t.faults) x.tx.count x.cfg.canBase 0 false)
      due := false, count := x.tx.count + 1 } := by
  have hsummary : summaryOf t = summaryOf x := by rw [ht, summaryOf_sendNext]
  have hfaults : t.faults = x.faults := by rw [ht, sendNext_eq]
  rw [hsummary, hfaults, ht, sendNext_due hr hdue hp, ← hon]
  rfl

/-- The state of an entry once its holder is stopped. -/
theorem judgeDriveOff_entered {j e : State} (he : e = controlledStop (.ending .vehicle) (driveOffEntered j))
    (hv : 3 ≤ roadSpeed j) (hm : MotionHeld j) :
    e.zt.driveOff = true ∧ e.zt.permitT = none ∧ e.veh = j.veh ∧ judgeDriveOff e = e := by
  have hkept := ChassisKept.controlledStop (.ending .vehicle) (driveOffEntered j)
  have hveh := (controlledStop_rel keeps_slotReaction (.ending .vehicle) (driveOffEntered j)).veh
  rw [← he] at hkept hveh
  have hspeed : roadSpeed e = roadSpeed j := by rw [roadSpeed, roadSpeed, hveh]; rfl
  have hmotion : MotionHeld e := hkept.motion (hm.congr rfl rfl rfl rfl)
  exact ⟨hkept.permit.1, hkept.permit.2, hveh,
    judgeDriveOff_stays hkept.permit.1 (by rw [hspeed]; omega) hmotion.insecure⟩

theorem settle_eq_entered {j e : State} (he : e = controlledStop (.ending .vehicle) (driveOffEntered j))
    (hd : j.zt.driveOff = false) (hv : 3 ≤ roadSpeed j) (hm : MotionHeld j) (hveh : vehicleOk j = false) :
    settle j = sendNext (showAll (deriveIntent e)) := by
  obtain ⟨-, -, hvehicle, hstays⟩ := judgeDriveOff_entered he hv hm
  have hno : vehicleOk e = false := by rw [vehicleOk, State.fresh, hvehicle]; exact hveh
  have hj : judgeDriveOff j = e := (judgeDriveOff_enters hd hv hm.insecure).trans he.symm
  show sendNext (showAll (grantLoop grantBound (judgeDriveOff (judgeDriveOff j)))) = _
  rw [hj, hstays, grantLoop_noVehicle hno]

/-- What an entry into Drive-Off makes of the permit, and of the Part Status of a free transmitter and of a
busy one (R62, R162). -/
theorem settle_enters {j : State} (hd : j.zt.driveOff = false) (hv : 3 ≤ roadSpeed j) (hm : MotionHeld j)
    (hveh : vehicleOk j = false) (hp : j.parked = false) :
    (settle j).zt.driveOff = true ∧ (settle j).zt.permitT = none
      ∧ (j.tx.run ≠ none → (settle j).tx.due = true)
      ∧ (j.tx.run = none → (settle j).tx = { j.tx with
          run := some (TxRun.mk (.partStatus (summaryOf (settle j)) true (settle j).faults) j.tx.count
            j.cfg.canBase 0 false)
          due := false, count := j.tx.count + 1 }) := by
  have hkept := ChassisKept.controlledStop (.ending .vehicle) (driveOffEntered j)
  have hpermit := settle_permitKept j
  rw [judgeDriveOff_enters hd hv hm.insecure] at hpermit
  obtain ⟨e, he⟩ : ∃ e, e = controlledStop (.ending .vehicle) (driveOffEntered j) := ⟨_, rfl⟩
  have hsettle := settle_eq_entered he hd hv hm hveh
  obtain ⟨hon, hnone, -, hstays⟩ := judgeDriveOff_entered he hv hm
  rw [← he] at hkept hpermit
  rw [hstays] at hpermit
  generalize settle j = t at hsettle hpermit ⊢
  refine ⟨hpermit.1.trans hon, hpermit.2.trans hnone, fun hr => ?_, fun hr => ?_⟩
  · have hrun : e.tx.run ≠ none := by
      rw [← Option.isSome_iff_ne_none, hkept.tx.run]
      exact Option.isSome_iff_ne_none.mpr hr
    rw [hsettle, sendNext_busy (by rw [shown_tx]; exact hrun), shown_tx]
    exact hkept.tx.due
  · have htx : (showAll (deriveIntent e)).tx = { j.tx with due := true } :=
      (shown_tx e).trans (hkept.tx.idle hr)
    have hcfg : (showAll (deriveIntent e)).cfg = j.cfg := (shown_cfg e).trans hkept.cfg
    have hawake : (showAll (deriveIntent e)).parked = false := (shown_parked e).trans (hkept.awake hp)
    have hdriveOff : (showAll (deriveIntent e)).zt.driveOff = true := (shown_driveOff e).trans hon
    generalize showAll (deriveIntent e) = x at hsettle htx hcfg hawake hdriveOff
    have hsent := sendNext_driveOff hsettle (by rw [htx]; exact hr) (by rw [htx]) hawake hdriveOff
    rw [htx, hcfg] at hsent
    exact hsent

/-! ## Drive-Off without an entry -/

section Drive
variable {j : State}

theorem settle_driveOff_leaves (h : roadSpeed j = 0 ∨ insecure j = false) :
    (settle j).zt.driveOff = false ∧ (settle j).zt.permitT = j.zt.permitT := by
  have hpermit := settle_permitKept j
  rw [judgeDriveOff_clear h, judgeDriveOff_clear (s := withDriveOff false j) h] at hpermit
  exact ⟨hpermit.1, hpermit.2⟩

theorem settle_driveOff_stays (hd : j.zt.driveOff = true) (hv : roadSpeed j ≠ 0) (hi : insecure j = true) :
    (settle j).zt.driveOff = true ∧ (settle j).zt.permitT = j.zt.permitT := by
  have hpermit := settle_permitKept j
  rw [judgeDriveOff_stays hd hv hi, judgeDriveOff_stays hd hv hi] at hpermit
  exact ⟨hpermit.1.trans hd, hpermit.2⟩

theorem settle_driveOff_off (hd : j.zt.driveOff = false) (hv : roadSpeed j < 3) :
    (settle j).zt.driveOff = false := by
  have hpermit := settle_permitKept j
  rw [judgeDriveOff_off hd (.inl hv), judgeDriveOff_off hd (.inl hv)] at hpermit
  exact hpermit.1.trans hd

end Drive

/-! ## The stop of the holder at the loss of the vehicle condition -/

theorem judgeVehicle_keeps (held : Bool) (s : State) : Keeps s (judgeVehicle held s) := by
  unfold judgeVehicle
  split
  · exact controlledStop_rel keeps_slotReaction _ s
  · exact .refl s

theorem judgeVehicle_raised (held : Bool) (s : State) {f : Flag} (h : flagIn s.faults f = true) :
    flagIn (judgeVehicle held s).faults f = true := by
  unfold judgeVehicle
  split
  · exact (controlledStop_rel Mild.slotReaction _ s).raised f h
  · exact h

theorem judgeVehicle_stops {s : State} {k : Stroke} (hveh : vehicleOk s = false)
    (hh : s.arb.holder = some k.slot) (ha : (s.slot k.slot).state = .active) (hk : s.se.stroke = some k)
    (hts : (s.axisCfg k.axis).ts ≠ 0) : judgeVehicle true s = stopBegun (.ending .vehicle) k s := by
  rw [judgeVehicle, hveh, Bool.not_false, Bool.and_self, if_pos rfl, controlledStop_active _ hh hk ha,
    if_neg hts]

/-- A stop that has begun stands through the closing of the command. -/
theorem Settled.vehicleStop {s j t : State} {k : Stroke} (h : Settled j t) (hh : s.arb.holder = some k.slot)
    (hsm : j.sm = (Machine.stopBegun (.ending .vehicle) k s).sm) (harb : j.arb = s.arb)
    (hstroke : j.se.stroke = some (stoppingStroke s k)) :
    t.slot k.slot = { s.slot k.slot with state := .stopping, lastEnd := some .vehicle }
      ∧ t.arb.holder = some k.slot ∧ t.se.stroke = some (stoppingStroke s k) := by
  have hslot : j.slot k.slot = { s.slot k.slot with state := .stopping, lastEnd := some .vehicle } := by
    rw [slot_congr (congrArg SeqManager.slots hsm) k.slot, stopBegun_slot]
    rfl
  have hholder : j.arb.holder = some k.slot := by rw [harb]; exact hh
  obtain ⟨htsm, htarb, htse, -⟩ := h.steady (.inr ⟨k.slot, hholder, .inl (by rw [hslot]; exact nofun)⟩)
  refine ⟨?_, ?_, ?_⟩
  · rw [slot_congr (congrArg SeqManager.slots htsm) k.slot, hslot]
  · rw [htarb, hholder]
  · rw [htse, hstroke]

/-! ## A Chassis Status frame -/

/-- The content of the frame is stored, FRESH (R156). -/
def chassisStored (v : ChassisStatus) (s : State) : State :=
  { s with veh := { status := some v, freshT := some 500 } }

/-- The state of a frame up to the closing: the vehicle condition, the engine and the ignition are judged. -/
def chassisJudged (v : ChassisStatus) (s : State) : State :=
  judgeIgnition (ignitionOn s) (engineHanded (judgeVehicle (vehicleOk s) (chassisStored v s)))

theorem readChassis_malformed {data : List Byte} (h : data.length < 4 ∨ 1 < (data.getD 0 0).toNat
    ∨ 250 < (data.getD 1 0).toNat ∨ 1 < (data.getD 2 0).toNat ∨ 1 < (data.getD 3 0).toNat) :
    readChassis data = none := by
  unfold readChassis u8
  rw [if_pos]
  simp only [Bool.or_eq_true, decide_eq_true_eq]
  tauto

theorem exec_chassisStatus_taken {data : List Byte} {s : State} {v : ChassisStatus} (hp : s.parked = false)
    (hv : readChassis data = some v) :
    exec (.chassisStatus data) s = .next (settle (chassisJudged v s)) := by
  rw [exec_chassisStatus, wake_awake hp, takeChassis, hv]
  rfl

section Frame
variable (v : ChassisStatus) (s : State)

theorem chassisJudged_kept : ChassisKept s (chassisJudged v s) :=
  have hstored : ChassisKept s (chassisStored v s) := .of_record rfl id
  ((hstored.trans (.judgeVehicle _ _)).trans (.engineHanded _)).trans (.judgeIgnition _ _)

theorem judgeVehicle_veh : (judgeVehicle (vehicleOk s) (chassisStored v s)).veh
    = { status := some v, freshT := some 500 } :=
  (judgeVehicle_keeps _ (chassisStored v s)).veh

theorem chassisJudged_veh : (chassisJudged v s).veh = { status := some v, freshT := some 500 } := by
  obtain ⟨-, -, -, hveh, -⟩ := engineHanded_stroke (judgeVehicle (vehicleOk s) (chassisStored v s))
  exact ((judgeIgnition_keeps _ _).veh.trans hveh).trans (judgeVehicle_veh v s)

theorem chassisJudged_speed : roadSpeed (chassisJudged v s) = v.speed := by
  rw [roadSpeed, chassisJudged_veh]

/-- The supply record, of which the ignition judges the power state alone, is that of the engine (R165). -/
theorem chassisJudged_supply {w t : State} (hw : w = judgeVehicle (vehicleOk s) (chassisStored v s))
    (ht : Keeps (chassisJudged v s) t) : t.sup.supply = (engineHanded w).sup.supply
      ∧ t.sup.belowNormal = (engineHanded w).sup.belowNormal ∧ t.sup.belowExh = (engineHanded w).sup.belowExh
      ∧ t.sup.aboveExh = (engineHanded w).sup.aboveExh
      ∧ t.sup.aboveNormal = (engineHanded w).sup.aboveNormal := by
  subst hw
  have hkeeps := (judgeIgnition_keeps (ignitionOn s)
    (engineHanded (judgeVehicle (vehicleOk s) (chassisStored v s)))).trans ht
  exact ⟨hkeeps.supply, hkeeps.belowNormal, hkeeps.belowExh, hkeeps.aboveExh, hkeeps.aboveNormal⟩

theorem chassisJudged_engineRunning {t : State} (he : v.engine = true) (ht : Keeps (chassisJudged v s) t) :
    t.sup.supply = .normal ∧ t.sup.belowNormal = none ∧ t.sup.belowExh = none
      ∧ t.sup.aboveExh = none ∧ t.sup.aboveNormal = none := by
  obtain ⟨w, hw⟩ : ∃ w, w = judgeVehicle (vehicleOk s) (chassisStored v s) := ⟨_, rfl⟩
  have hrunning : engineRunning w = true := by
    rw [engineRunning, State.fresh, hw, judgeVehicle_veh]
    exact he
  obtain ⟨d, hd⟩ := engineHanded_running hrunning
  have hsupply := chassisJudged_supply v s hw ht
  rw [hd] at hsupply
  exact hsupply

theorem chassisJudged_engineOff {t : State} (he : v.engine = false) (ht : Keeps (chassisJudged v s) t) :
    t.sup.supply = s.sup.supply ∧ t.sup.belowNormal = s.sup.belowNormal ∧ t.sup.belowExh = s.sup.belowExh
      ∧ t.sup.aboveExh = s.sup.aboveExh ∧ t.sup.aboveNormal = s.sup.aboveNormal := by
  obtain ⟨w, hw⟩ : ∃ w, w = judgeVehicle (vehicleOk s) (chassisStored v s) := ⟨_, rfl⟩
  have hoff : engineRunning w = false := by
    rw [engineRunning, State.fresh, hw, judgeVehicle_veh]
    exact he
  have hsupply := chassisJudged_supply v s hw ht
  have hkeeps := judgeVehicle_keeps (vehicleOk s) (chassisStored v s)
  rw [← hw] at hkeeps
  rw [engineHanded_off hoff] at hsupply
  obtain ⟨hs, hbn, hbe, hae, han⟩ := hsupply
  exact ⟨hs.trans hkeeps.supply, hbn.trans hkeeps.belowNormal, hbe.trans hkeeps.belowExh,
    hae.trans hkeeps.aboveExh, han.trans hkeeps.aboveNormal⟩

theorem chassisJudged_stops {k : Stroke} {t : State} (hheld : vehicleOk s = true)
    (hlost : v.brake = false ∨ v.speed ≠ 0) (hh : s.arb.holder = some k.slot)
    (ha : (s.slot k.slot).state = .active) (hk : s.se.stroke = some k) (hts : (s.axisCfg k.axis).ts ≠ 0)
    (ht : Settled (chassisJudged v s) t) :
    t.slot k.slot = { s.slot k.slot with state := .stopping, lastEnd := some .vehicle }
      ∧ t.arb.holder = some k.slot ∧ t.se.stroke = some (stoppingStroke s k) := by
  have hveh : vehicleOk (chassisStored v s) = false := by
    show (true && (v.brake && v.speed == 0)) = false
    rcases hlost with h | h
    · rw [h]; rfl
    · rw [beq_eq_false_iff_ne.mpr h, Bool.and_false]; rfl
  have hstop : judgeVehicle (vehicleOk s) (chassisStored v s)
      = stopBegun (.ending .vehicle) k (chassisStored v s) := by
    rw [hheld]
    exact judgeVehicle_stops hveh hh ha hk hts
  obtain ⟨hstroke, hsm, harb, -⟩ := engineHanded_stroke (stopBegun (.ending .vehicle) k (chassisStored v s))
  have hjudged : chassisJudged v s = _ := judgeIgnition_sup (ignitionOn s)
    (engineHanded (judgeVehicle (vehicleOk s) (chassisStored v s)))
  rw [hstop] at hjudged
  refine ht.vehicleStop hh ?_ ?_ ?_
  · rw [hjudged]; exact hsm
  · rw [hjudged]; exact harb
  · rw [hjudged]; exact hstroke

end Frame

/-! ## The expiry of the freshness timer -/

/-- The content goes stale, with its flag (R156). -/
def staleStored (s : State) : State := report .chassisStale { s with veh := { s.veh with freshT := none } }

theorem becomeStale_eq (s : State) :
    becomeStale s = judgeIgnition (ignitionOn s) (judgeVehicle (vehicleOk s) (staleStored s)) := rfl

theorem vehicleOk_stale {s : State} (h : s.veh.freshT = none) : vehicleOk s = false := by
  rw [vehicleOk, State.fresh, h]
  rfl

theorem becomeStale_kept (s : State) : ChassisKept s (becomeStale s) :=
  have hstored : ChassisKept s (staleStored s) := .of_record rfl id
  (hstored.trans (.judgeVehicle _ _)).trans (.judgeIgnition _ _)

theorem becomeStale_keeps (s : State) : Keeps (staleStored s) (becomeStale s) :=
  (judgeVehicle_keeps _ _).trans (judgeIgnition_keeps _ _)

theorem becomeStale_flag (s : State) : flagIn (becomeStale s).faults .chassisStale = true := by
  rw [becomeStale_eq, judgeIgnition_sup]
  refine judgeVehicle_raised _ _ ?_
  rw [staleStored, report, flagIn_raiseFlag, decide_eq_true rfl, Bool.or_true]

theorem becomeStale_stops {s : State} {k : Stroke} {t : State} (hheld : vehicleOk s = true)
    (hh : s.arb.holder = some k.slot) (ha : (s.slot k.slot).state = .active) (hk : s.se.stroke = some k)
    (hts : (s.axisCfg k.axis).ts ≠ 0) (ht : Settled (becomeStale s) t) :
    t.slot k.slot = { s.slot k.slot with state := .stopping, lastEnd := some .vehicle }
      ∧ t.arb.holder = some k.slot ∧ t.se.stroke = some (stoppingStroke s k) := by
  have hjudged := becomeStale_eq s
  rw [hheld, judgeVehicle_stops (s := staleStored s) (vehicleOk_stale rfl) hh ha hk hts,
    judgeIgnition_sup] at hjudged
  refine ht.vehicleStop hh ?_ ?_ ?_
  all_goals rw [hjudged]
  all_goals rfl

/-- Settles O27: the judgement of Drive-Off by its four cases on the state that the frame's reactions leave
(`chassisJudged_kept`), and the stop of the holder by `chassisJudged_stops`. -/
theorem chassisStatusIsTakenAndGoesStale : Obligations.ChassisStatusIsTakenAndGoesStale := by
  intro data s
  refine ⟨fun hp hbad => ?_, fun v hp hv => ?_, fun hd => ?_, fun hd => ?_⟩
  · rw [exec_chassisStatus, wake_awake hp, takeChassis, readChassis_malformed hbad]
  · have hkept := chassisJudged_kept v s
    have hveh := chassisJudged_veh v s
    have hspeed := chassisJudged_speed v s
    have hon := fun he t => chassisJudged_engineRunning v s (t := t) he
    have hoff := fun he t => chassisJudged_engineOff v s (t := t) he
    have hstop := fun k t => chassisJudged_stops v s (k := k) (t := t)
    refine ⟨_, exec_chassisStatus_taken hp hv, ?_⟩
    generalize chassisJudged v s = j at *
    have hsettled := settle_settled j
    obtain ⟨hdrive, hpermit⟩ := hkept.permit
    refine ⟨fun hm => ?_, fun ho hrest => ?_, fun hlow => ⟨?_, fun hd => ?_⟩, fun hzero => ?_,
      hsettled.veh.trans hveh, hsettled.sensors.trans hkept.sensors, hsettled.blocks.trans hkept.blocks,
      hsettled.position.trans hkept.position, hsettled.loop.trans hkept.loop, hsettled.hold.trans hkept.hold,
      hsettled.cfg.trans hkept.cfg, hsettled.store.trans hkept.store, hsettled.lines.trans hkept.lines,
      fun he => hon he _ hsettled.toKeeps, fun he => hoff he _ hsettled.toKeeps,
      fun i k hheld hlost hh ha hk hki hts => ?_, fun i hi => ?_⟩
    · have hmotion : MotionHeld j := hkept.motion hm
      have hstays (hd : s.zt.driveOff = true) (h0 : v.speed ≠ 0) :=
        settle_driveOff_stays (hdrive.trans hd) (by rw [hspeed]; exact h0) hmotion.insecure
      have henters (hd : s.zt.driveOff = false) (h3 : 3 ≤ v.speed) :=
        settle_enters (hdrive.trans hd) (by rw [hspeed]; exact h3) hmotion
          (by simp [vehicleOk, hveh]; omega) (hkept.awake hp)
      refine ⟨fun h3 => ?_, fun h3 hd => ?_, fun h3 hd => ?_, fun h12 => ?_⟩
      · cases hd : s.zt.driveOff with
        | true => exact (hstays hd (by omega)).1
        | false => exact (henters hd h3).1
      · exact (hstays hd (by omega)).2.trans hpermit
      · obtain ⟨-, hnone, hbusy, hfree⟩ := henters hd h3
        refine ⟨hnone, fun hr => hbusy ?_, fun hr => ?_⟩
        · rw [← Option.isSome_iff_ne_none, hkept.tx.run]
          exact Option.isSome_iff_ne_none.mpr hr
        · have htx := hkept.tx.idle hr
          have hsent := hfree (by rw [htx]; exact hr)
          rw [htx, hkept.cfg] at hsent
          exact hsent
      · cases hd : s.zt.driveOff with
        | true => exact (hstays hd (by omega)).1
        | false => exact settle_driveOff_off (hdrive.trans hd) (by rw [hspeed]; omega)
    · obtain ⟨hleft, hsame⟩ := settle_driveOff_leaves (.inr (hkept.slots_at_rest ho hrest))
      exact ⟨hleft, hsame.trans hpermit⟩
    · exact (hsettled.permit (.inr (by rw [hspeed]; exact hlow))).trans hpermit
    · exact settle_driveOff_off (hdrive.trans hd) (by rw [hspeed]; exact hlow)
    · exact (settle_driveOff_leaves (.inl (hspeed.trans hzero))).1
    · subst hki
      exact hstop k _ hheld hlost hh ha hk hts hsettled
    · have hself := (hkept.inert i hi).1
      rw [(hsettled.inert i (by rw [hself]; exact hi)).1, hself]
  · rw [exec_freshnessTimerExpiry, if_neg (by rw [due_iff]; exact hd)]
  · have hkept := becomeStale_kept s
    have hkeeps := becomeStale_keeps s
    have hflag := becomeStale_flag s
    have hstop := fun k t => becomeStale_stops (s := s) (k := k) (t := t)
    refine ⟨settle (becomeStale s), ?_, ?_⟩
    · rw [exec_freshnessTimerExpiry, if_pos (by rw [due_iff]; exact hd)]
    generalize becomeStale s = j at *
    have hsettled := settle_settled j
    have hveh : (settle j).veh = { s.veh with freshT := none } := hsettled.veh.trans hkeeps.veh
    have hstored : Keeps { s with veh := { s.veh with freshT := none } } (staleStored s) := report_keeps _ _
    refine ⟨fun i k hheld hh ha hk hki hts => ?_, hveh, hsettled.raised _ hflag,
      vehicleOk_stale (by rw [hveh]), ?_, fun i hi => ?_⟩
    · subst hki
      exact hstop k _ hheld hh ha hk hts hsettled
    · rw [hveh]
      exact (hstored.trans hkeeps).trans hsettled.toKeeps
    · have hself := (hkept.inert i hi).1
      rw [(hsettled.inert i (by rw [hself]; exact hi)).1, hself]

end Sys2Proof.Machine
end
